-- ==== Sys2Proof/Word.lean ====
section
/-!
DEFINITION. The words, numbers and fixed-size tables of the FA-418 (spec/00_scope.md, 3.1 to 3.4).
-/

namespace Sys2Proof

/-- A byte of a port window, of a loop frame or of a store place. -/
abbrev Byte := BitVec 8

/-- A 24-bit lane word (R1, R18) or filter coefficient (R47). -/
abbrev Word := BitVec 24

/-- A 24-bit two's-complement sample (00_scope, 3.2). -/
abbrev Sample := BitVec 24

/-- Screens 1 to 4, counted here from 0. -/
abbrev ScreenId := Fin 4
/-- Feeds 1 to 16 of a screen, counted here from 0. -/
abbrev FeedId := Fin 16
/-- Source channels C1 to C14, counted here from 0. -/
abbrev ChannelId := Fin 14
/-- Presets 0 to 3 of a bank. -/
abbrev PresetId := Fin 4
/-- Cue lines 1 to 16, counted here from 0. -/
abbrev LineId := Fin 16
/-- Stations 1 to 8, counted here from 0. -/
abbrev StationId := Fin 8
/-- Control ports P1 to P5, counted here from 0. -/
abbrev PortId := Fin 5
/-- Section slots 0 to 383 (R59). -/
abbrev SlotId := Fin 384
/-- Record places 0 to 31 (R187). -/
abbrev PlaceId := Fin 32
/-- Records 0 to 28 of the store, by record number (R197). -/
abbrev RecordId := Fin 29
/-- Sense lines 1 to 64, counted here from 0 (R84). -/
abbrev SenseLine := Fin 64
/-- Format codes 0 (silence) to 6 (FOURTEEN) of the descriptor (01, 1.2). -/
abbrev FormatCode := Fin 7
/-- Row sets of a render table: 0 to 5 for the codes 1 to 6, and 6 for NS (R37, R195). -/
abbrev RowSetId := Fin 7

namespace Tab

variable {α β : Type} {n : Nat}

/-- The entry of a table at an index. -/
def get (v : Vector α n) (i : Fin n) : α := v[i.val]

/-- A table with one entry replaced. -/
def set (v : Vector α n) (i : Fin n) (a : α) : Vector α n := v.set i.val a

/-- A table with one entry changed by a function. -/
def modify (v : Vector α n) (i : Fin n) (f : α → α) : Vector α n := set v i (f (get v i))

/-- The table whose entries a function gives. -/
def build (f : Fin n → α) : Vector α n := Vector.ofFn f

/-- A table with every entry changed by a function of its index. -/
def mapIdx (f : Fin n → α → β) (v : Vector α n) : Vector β n := build fun i => f i (get v i)

/-- A table with every entry changed. -/
def map (f : α → β) (v : Vector α n) : Vector β n := build fun i => f (get v i)

/-- The table of one value throughout. -/
def all (a : α) : Vector α n := Vector.replicate n a

/-- The entries in index order. -/
def list (v : Vector α n) : List α := v.toList

end Tab

/-- `v` limited to `lo..hi` (00_scope, 3.3, "clamped"). -/
def clamp (lo hi v : Int) : Int := max lo (min hi v)

/-- The natural number `v` limited to `lo..hi` (00_scope, 3.3, "clamped"). -/
def clampNat (lo hi v : Nat) : Nat := max lo (min hi v)

end Sys2Proof
end

