-- ==== Sys2Proof/Syntax.lean ====
section
/-!
DEFINITION. The commands of the FA-418: one constructor per row of spec/opcode_table.json, in its order.
Each is one whole, indivisible step of the part (spec/95_what_each_step_holds.md).

Operands are what the outside world gives the part in that step: the words of a lane frame (R1), the level of a strap
or of the safety input (R188, R166), a conversion's reading (R84), the bytes of a loop frame (R196), the bytes a master
clocks into a port window (R173), whether a store verify matched and a retirement header took (R190).  A port command
carries the parameter bytes that follow its opcode in the window (R198).
-/

namespace Sys2Proof

/-- The rows of spec/opcode_table.json. -/
inductive Instr where
  /-- POWER_ON (R188): Power is applied; start-up begins with the stabilisation count, and the straps are sampled after it. -/
  | powerOn
  /-- RESET_LINE (R188): Assertion of the RESET line ends all activity, including a store write, and restarts start-up from step 1 without sampling the straps again. -/
  | resetLine
  /-- STABILISATION_END (R188): The count of 65,536 oscillator periods ends; house time starts, and the store is mapped and loaded, chains are built, screen states and station joining are set. -/
  | stabilisationEnd (storeBypass quietStart : Bool)
  /-- WORD_FRAME_ARRIVAL (R1): A word-frame arrives on a program lane; its channel samples are written into the block and its slot-14 word is examined according to the stream state. -/
  | wordFrameArrival (i : ScreenId) (words : List Word)
  /-- LANE_ABSENCE_TIMEOUT (R4): 1 ms passes without a word-frame; the lane receiver enters ABSENT, with a stream loss if the stream was locked. -/
  | laneAbsenceTimeout (i : ScreenId)
  /-- NON_SYNC_FRAME_ARRIVAL (R18): A frame of NS-L and NS-R samples arrives on the non-sync lane. -/
  | nonSyncFrameArrival (left right : Word)
  /-- BLOCK_BOUNDARY (R2): A screen's block ends and the next begins; reports, ramps, gates, level watch, pool decisions and the show clock are all processed here. -/
  | blockBoundary (i : ScreenId)
  /-- SEGMENT_COMPLETION (R96): The 100th block completes a segment; the ring and W are updated and the ceiling is lowered, raised or kept. -/
  | segmentCompletion (i : ScreenId)
  /-- CROSSFADE_END (R69): The old chains are released and the incoming records become the running records. -/
  | crossfadeEnd (i : ScreenId)
  /-- CUT_EXCHANGE (R70): The claim is dropped, the old chains are released and the new ones allocated, and a deferred RECALL is written. -/
  | cutExchange (i : ScreenId)
  /-- CUT_END (R70): The cut's ramp-in block ends and the switch state returns to NONE. -/
  | cutEnd (i : ScreenId)
  /-- FREE_RUN_LIMIT (R135): The free-run count reaches the limit; the clock freezes and auto-end may end the show. -/
  | freeRunLimit (i : ScreenId)
  /-- PULSE_END (R145): A line's pulse remaining reaches 0 and the pulse ends. -/
  | pulseEnd (l : LineId)
  /-- FADE_END (R57): A running fade reaches its duration and the fader holds the target. -/
  | fadeEnd (i : ScreenId)
  /-- CALIBRATION_STEP_END (R111): Ten blocks of a tone step end; S is formed and the outcome is decided. -/
  | calibrationStepEnd
  /-- SENSE_CONVERSION_SLOT (R84): A 125 µs slot converts one sense line, chosen by rotation or as the calibrating line. -/
  | senseConversionSlot (reading : BitVec 12)
  /-- SAFETY_INPUT_SAMPLE (R166): The safety input is sampled every 1 ms, and a change is recognised at the second equal differing sample. -/
  | safetyInputSample (asserted : Bool)
  /-- FRAME_TRANSMISSION_END (R151): The last byte of a loop frame is sent; the loop awaits a reply or becomes FREE and arbitration runs. -/
  | frameTransmissionEnd
  /-- FRAME_RECEIVED (R150): A received loop frame is complete; it is ignored or taken as a good TALLY by its station. -/
  | frameReceived (bytes : List Byte)
  /-- REPLY_TIMER_EXPIRY (R160): The reply timer expires; the retry count rises and a PROBE or RESTART becomes due, or the station goes DOWN. -/
  | replyTimerExpiry
  /-- STATION_TIMER_EXPIRY (R160): A BUSY or DOWN station's timer expires and a PROBE becomes due. -/
  | stationTimerExpiry (k : StationId)
  /-- RESULT_WINDOW (R174): A window begun in RESULT shifts out the result record, and its release consumes the result. -/
  | resultWindow (p : PortId) (bytes : List Byte)
  /-- EXECUTE_WINDOW (R174): A window begun in EXECUTE shows the status byte, ignores its input and leaves the phase unchanged. -/
  | executeWindow (p : PortId) (bytes : List Byte)
  /-- INVALID_OPCODE (R173): A command window whose opcode names no command is refused with INVALID_OPCODE. -/
  | invalidOpcode (p : PortId) (opcode : Byte) (params : List Byte)
  /-- READ_SCREEN (R148): Returns the stream, render, calibration and show parts of a screen. -/
  | readScreen (p : PortId) (params : List Byte)
  /-- READ_METERS (R106): Returns the feeds' meter reports and governor state, and empties the peak holds and clip totals. -/
  | readMeters (p : PortId) (params : List Byte)
  /-- READ_FEED (R105): Returns one feed's record, latest reading, running record and cover. -/
  | readFeed (p : PortId) (params : List Byte)
  /-- READ_ALARMS (R104): Returns up to 16 alarm records from a start place. -/
  | readAlarms (p : PortId) (params : List Byte)
  /-- ACK_ALARM (R101): Acknowledges one named record or all records the port may acknowledge. -/
  | ackAlarm (p : PortId) (params : List Byte)
  /-- READ_CUES (R133): Returns up to 16 cues of a screen's list from a start index. -/
  | readCues (p : PortId) (params : List Byte)
  /-- LOCATE (R133): Finds a cue by time in EQUAL, AT_OR_BEFORE or AT_OR_AFTER mode. -/
  | locate (p : PortId) (params : List Byte)
  /-- READ_LOOP (R164): Returns the loop, the queue, the evacuation slot and the station records. -/
  | readLoop (p : PortId) (params : List Byte)
  /-- READ_POOL (R79): Returns the pool counts and each screen's preset, switch and holdings. -/
  | readPool (p : PortId) (params : List Byte)
  /-- READ_NOTICE (R16): Returns a screen's format notice and empties it. -/
  | readNotice (p : PortId) (params : List Byte)
  /-- COLLECT (R182): Returns and frees the port's earliest DONE completion entry, or reports none. -/
  | collect (p : PortId) (params : List Byte)
  /-- WAKE (R124): Brings a DARK screen to IDLE or withdraws a held SLEEP. -/
  | wake (p : PortId) (params : List Byte)
  /-- SLEEP (R125): Puts an IDLE screen into DARK, at once or held until a switch ends. -/
  | sleep (p : PortId) (params : List Byte)
  /-- START_SHOW (R126): Records the opening state, resets the cues and governor, and puts the screen into SHOW. -/
  | startShow (p : PortId) (params : List Byte)
  /-- END_SHOW (R128): Returns a screen from SHOW to IDLE, clearing the lock, clock and suspension. -/
  | endShow (p : PortId) (params : List Byte)
  /-- RESUME (R170): Clears the evacuation mute and suspension of a screen or of ALL. -/
  | resume (p : PortId) (params : List Byte)
  /-- SET_LEVEL (R129): Sets the fader value of the next block and ends a running fade. -/
  | setLevel (p : PortId) (params : List Byte)
  /-- FADE (R129): Starts a fade to a target over a duration. -/
  | fade (p : PortId) (params : List Byte)
  /-- SELECT_SOURCE (R28): Sets the selected source of a screen. -/
  | selectSource (p : PortId) (params : List Byte)
  /-- SELECT_PRESET (R67): Takes a completion entry and places an activation request in the pending place. -/
  | selectPreset (p : PortId) (params : List Byte)
  /-- SET_LOCK (R130): Sets or clears a screen's show lock. -/
  | setLock (p : PortId) (params : List Byte)
  /-- SET_TRIM (R75): Writes a clamped trim into the bank and the current record. -/
  | setTrim (p : PortId) (params : List Byte)
  /-- CLEAR_FEED (R90): Returns a DEAD feed to ACTIVE and clears its dead count. -/
  | clearFeed (p : PortId) (params : List Byte)
  /-- SEND_ORDER (R162): Queues an ad hoc ORDER or BROADCAST from a port with house right. -/
  | sendOrder (p : PortId) (params : List Byte)
  /-- SET_LINE (R147): Hands a SET, CLEAR or PULSE action to the cue line unit. -/
  | setLine (p : PortId) (params : List Byte)
  /-- CALIBRATE (R108): Takes a completion entry and queues a calibration request. -/
  | calibrate (p : PortId) (params : List Byte)
  /-- ABORT (R183): Ends a running long operation by its owner's rule, or refuses. -/
  | abort (p : PortId) (params : List Byte)
  /-- OPEN_LOAD (R177): Opens the port's staging for a target with 0 bytes. -/
  | openLoad (p : PortId) (params : List Byte)
  /-- PARCEL (R177): Appends 1 to 32 bytes to the staging, or overflows it. -/
  | parcel (p : PortId) (params : List Byte)
  /-- CLOSE_LOAD (R178): Judges the staged content and commits it to its target, then closes the staging. -/
  | closeLoad (p : PortId) (params : List Byte)
  /-- STORE (R190): Takes a completion entry and begins writing the DEVICE record or a screen's records. -/
  | store (p : PortId) (params : List Byte)
  /-- STORE_WRITE_COMPLETE (R190): A record write's verify completes as a match, a retirement with a spare rewrite, or a fault, and the next write begins. -/
  | storeWriteComplete (matched retirementTook : Bool)
  /-- RECALL (R191): Takes a completion entry and begins reading the named records. -/
  | recallStored (p : PortId) (params : List Byte)
  /-- RECALL_READ_COMPLETE (R191): A record read completes and the record is applied, refused or deferred. -/
  | recallReadComplete
  /-- WIPE_SCREEN (R192): Clears the commissioned mark and begins erasing a DARK screen's records. -/
  | wipeScreen (p : PortId) (params : List Byte)
  /-- ERASE_COMPLETE (R192): An erasure completes; the place becomes EMPTY and the record leaves the map. -/
  | eraseComplete
  /-- COMMISSION (R193): Sets the commissioned mark and trims, and begins the PRESET0 write. -/
  | commission (p : PortId) (params : List Byte)
  /-- PORT_RESET (R185): Discards the port's staging and result and returns the port to READY in any phase. -/
  | portReset (p : PortId) (rest : List Byte)
  /-- COMMAND_PHASE_END (R173): Select is released at the end of a window in COMMAND; the command phase ends and the port enters EXECUTE until the command is executed at a later, unfixed instant. -/
  | commandPhaseEnd (p : PortId) (bytes : List Byte)
  /-- SAMPLE_PERIOD (R1): Each period of the house word clock advances the frame position of every lane (writing 0 where no frame came) and computes and sends one output sample per feed through the render, delay, level, equaliser and output stages, or the tone. -/
  | samplePeriod
deriving DecidableEq, Repr

end Sys2Proof
end

