-- ==== Sys2Proof/Decode.lean ====
section
/-!
DEFINITION. Reading commands. spec/opcode_table.json gives no row any bits, so no table word spells a command; the part's
own opcodes are those of a port window (R173, R198), read and written here.
-/

namespace Sys2Proof

/-- The command a word of the opcode table's bits spells: none, since the table gives no row any bits. -/
def decodeTableWord (_nbits _w : Nat) : Option Instr := none

/-- The command that a window's opcode and parameter bytes name (R173, R198). -/
def decodeOpcode (p : PortId) (opcode : Byte) (params : List Byte) : Instr :=
  match opcode.toNat with
  | 0x01 => .readScreen p params
  | 0x02 => .readMeters p params
  | 0x03 => .readFeed p params
  | 0x04 => .readAlarms p params
  | 0x05 => .ackAlarm p params
  | 0x06 => .readCues p params
  | 0x07 => .locate p params
  | 0x08 => .readLoop p params
  | 0x09 => .readPool p params
  | 0x0A => .readNotice p params
  | 0x0B => .collect p params
  | 0x10 => .wake p params
  | 0x11 => .sleep p params
  | 0x12 => .startShow p params
  | 0x13 => .endShow p params
  | 0x14 => .resume p params
  | 0x15 => .setLevel p params
  | 0x16 => .fade p params
  | 0x17 => .selectSource p params
  | 0x18 => .selectPreset p params
  | 0x19 => .setLock p params
  | 0x1A => .setTrim p params
  | 0x1B => .clearFeed p params
  | 0x1C => .sendOrder p params
  | 0x1D => .setLine p params
  | 0x1E => .calibrate p params
  | 0x1F => .abort p params
  | 0x20 => .openLoad p params
  | 0x21 => .parcel p params
  | 0x22 => .closeLoad p params
  | 0x23 => .store p params
  | 0x24 => .recallStored p params
  | 0x25 => .wipeScreen p params
  | 0x26 => .commission p params
  | 0xFF => .portReset p params
  | _ => .invalidOpcode p opcode params

/-- The command of a window's bytes, or none where no whole byte was clocked in (R172, R173). -/
def decodeWindow (p : PortId) (bytes : List Byte) : Option Instr :=
  match bytes with
  | [] => none
  | opcode :: params => some (decodeOpcode p opcode params)

/-- The opcode of a port command (R198); none for a row that is no port command. -/
def Instr.opcode : Instr → Option Byte
  | .readScreen _ _ => some 0x01#8
  | .readMeters _ _ => some 0x02#8
  | .readFeed _ _ => some 0x03#8
  | .readAlarms _ _ => some 0x04#8
  | .ackAlarm _ _ => some 0x05#8
  | .readCues _ _ => some 0x06#8
  | .locate _ _ => some 0x07#8
  | .readLoop _ _ => some 0x08#8
  | .readPool _ _ => some 0x09#8
  | .readNotice _ _ => some 0x0A#8
  | .collect _ _ => some 0x0B#8
  | .wake _ _ => some 0x10#8
  | .sleep _ _ => some 0x11#8
  | .startShow _ _ => some 0x12#8
  | .endShow _ _ => some 0x13#8
  | .resume _ _ => some 0x14#8
  | .setLevel _ _ => some 0x15#8
  | .fade _ _ => some 0x16#8
  | .selectSource _ _ => some 0x17#8
  | .selectPreset _ _ => some 0x18#8
  | .setLock _ _ => some 0x19#8
  | .setTrim _ _ => some 0x1A#8
  | .clearFeed _ _ => some 0x1B#8
  | .sendOrder _ _ => some 0x1C#8
  | .setLine _ _ => some 0x1D#8
  | .calibrate _ _ => some 0x1E#8
  | .abort _ _ => some 0x1F#8
  | .openLoad _ _ => some 0x20#8
  | .parcel _ _ => some 0x21#8
  | .closeLoad _ _ => some 0x22#8
  | .store _ _ => some 0x23#8
  | .recallStored _ _ => some 0x24#8
  | .wipeScreen _ _ => some 0x25#8
  | .commission _ _ => some 0x26#8
  | .portReset _ _ => some 0xFF#8
  | .invalidOpcode _ op _ => some op
  | _ => none

/-- The port and the window bytes that carry a port command (R173, R198); none for a row that is no port command. -/
def Instr.window : Instr → Option (PortId × List Byte)
  | .readScreen p params => some (p, 0x01#8 :: params)
  | .readMeters p params => some (p, 0x02#8 :: params)
  | .readFeed p params => some (p, 0x03#8 :: params)
  | .readAlarms p params => some (p, 0x04#8 :: params)
  | .ackAlarm p params => some (p, 0x05#8 :: params)
  | .readCues p params => some (p, 0x06#8 :: params)
  | .locate p params => some (p, 0x07#8 :: params)
  | .readLoop p params => some (p, 0x08#8 :: params)
  | .readPool p params => some (p, 0x09#8 :: params)
  | .readNotice p params => some (p, 0x0A#8 :: params)
  | .collect p params => some (p, 0x0B#8 :: params)
  | .wake p params => some (p, 0x10#8 :: params)
  | .sleep p params => some (p, 0x11#8 :: params)
  | .startShow p params => some (p, 0x12#8 :: params)
  | .endShow p params => some (p, 0x13#8 :: params)
  | .resume p params => some (p, 0x14#8 :: params)
  | .setLevel p params => some (p, 0x15#8 :: params)
  | .fade p params => some (p, 0x16#8 :: params)
  | .selectSource p params => some (p, 0x17#8 :: params)
  | .selectPreset p params => some (p, 0x18#8 :: params)
  | .setLock p params => some (p, 0x19#8 :: params)
  | .setTrim p params => some (p, 0x1A#8 :: params)
  | .clearFeed p params => some (p, 0x1B#8 :: params)
  | .sendOrder p params => some (p, 0x1C#8 :: params)
  | .setLine p params => some (p, 0x1D#8 :: params)
  | .calibrate p params => some (p, 0x1E#8 :: params)
  | .abort p params => some (p, 0x1F#8 :: params)
  | .openLoad p params => some (p, 0x20#8 :: params)
  | .parcel p params => some (p, 0x21#8 :: params)
  | .closeLoad p params => some (p, 0x22#8 :: params)
  | .store p params => some (p, 0x23#8 :: params)
  | .recallStored p params => some (p, 0x24#8 :: params)
  | .wipeScreen p params => some (p, 0x25#8 :: params)
  | .commission p params => some (p, 0x26#8 :: params)
  | .portReset p rest => some (p, 0xFF#8 :: rest)
  | .invalidOpcode p op params => some (p, op :: params)
  | _ => none

end Sys2Proof
end

