-- ==== Sys2Proof/Machine/State.lean ====
section
/-!
DEFINITION. The state of the FA-418 as plain data: every register, buffer, counter, mode and flag the spec gives it, the
reasons a step can stop (none but a row without a meaning), and the state right after start-up.
-/

namespace Sys2Proof.Machine

/-- No rule of the spec stops the part, so no command ends in a fault. -/
inductive Fault where
deriving DecidableEq, Repr

/-- Why a command has no meaning. -/
inductive Refusal where
  /-- Raised by `exec` for a row of the opcode table that has no meaning yet; safe, since nothing is claimed of it. -/
  | notModelled (mnemonic : String)
deriving DecidableEq, Repr

/-! ### Program lanes (spec/01) -/

/-- The five stream states (01, 1.3). -/
inductive StreamState where
  | absent | search | verify | locked | holdover
deriving DecidableEq, Repr

/-- The fourteen channel samples of one word-frame (R1). -/
abbrev Frame := Vector Sample 14

/-- A candidate descriptor: its sequence, its format code, and the position of the current sample period counted from the
candidate's word 0 (R5, R6). -/
structure Candidate where
  sequence : Nat
  code : Nat
  age : Nat
deriving DecidableEq, Repr

/-- What the lane receiver hands the show controller with a block (R11). -/
inductive Report where
  | normal (position : Nat)
  | jump (old new : Nat)
  | streamLocked (position : Nat)
  | streamLost (position : Nat)
deriving DecidableEq, Repr

/-- What belongs to one held block: its report (none for a block that is not a locked block, R29), the program offset and
channel mask it carried (R12, R13), and the format of a change taken in it (R14). -/
structure BlockInfo where
  report : Option Report
  offset : Int
  mask : BitVec 14
  change : Option FormatCode
deriving DecidableEq, Repr

/-- A block outside the locked stream. -/
def BlockInfo.free : BlockInfo := ⟨none, 0, 0#14, none⟩

/-- One recorded format change (R16). -/
structure FormatChange where
  old : FormatCode
  new : FormatCode
  position : Nat
deriving DecidableEq, Repr

/-- The count of a format notice (R16). -/
inductive NoticeCount where
  | zero | one | two | more
deriving DecidableEq, Repr

/-- A screen's format notice (R16). -/
structure Notice where
  count : NoticeCount
  first : Option FormatChange
  latest : Option FormatChange
  more : Bool
deriving DecidableEq, Repr

def Notice.empty : Notice := ⟨.zero, none, none, false⟩

/-- A lane receiver (spec/01). -/
structure Lane where
  stream : StreamState
  missCount : Nat
  /-- The expected sequence of the block last judged (R3, R7). -/
  expected : Option Nat
  /-- The show position of the block last judged (R11). -/
  position : Option Nat
  format : FormatCode
  formatCandidate : Option FormatCode
  heldOffset : Int
  heldMask : BitVec 14
  formatUnknown : Bool
  lost : Bool
  notice : Notice
  candidate : Option Candidate
  /-- The last six slot-14 words, newest first; none for a sample period without a frame. -/
  words : List (Option Word)
  /-- The frame that arrived in the current sample period. -/
  arrived : Option Frame
  /-- The last 480 frame positions, newest first: the one-block hold of R2.  A position not listed holds 0. -/
  hold : List Frame
  /-- Sample periods since the last word-frame (R4). -/
  silence : Nat
  /-- Sample periods until the first aligned boundary after an entry into LOCKED (R2). -/
  alignIn : Option Nat
  /-- The block being received. -/
  receiving : BlockInfo
  /-- The block being rendered. -/
  rendering : BlockInfo
deriving DecidableEq, Repr

/-- R19. -/
def Lane.reset : Lane where
  stream := .absent
  missCount := 0
  expected := none
  position := none
  format := 0
  formatCandidate := none
  heldOffset := 0
  heldMask := 0#14
  formatUnknown := false
  lost := false
  notice := .empty
  candidate := none
  words := []
  arrived := none
  hold := []
  silence := 0
  alignIn := none
  receiving := .free
  rendering := .free

/-- The non-sync receiver: the frame of the current sample period and the last 480, newest first (R18). -/
structure NonSync where
  arrived : Option (Sample × Sample)
  hold : List (Sample × Sample)
deriving DecidableEq, Repr

/-! ### Renderer (spec/02) -/

/-- A source of a screen (R28). -/
inductive Source where
  | program | nonsync | mute
deriving DecidableEq, Repr

/-- One render term: channel, level, and whether its polarity is − (02, 2.2). -/
structure Term where
  channel : ChannelId
  level : Int
  negative : Bool
deriving DecidableEq, Repr

/-- One render row (02, 2.2). -/
structure Row where
  surround : Bool
  terms : List Term
deriving DecidableEq, Repr

/-- The sixteen rows of one format, in feed order. -/
abbrev RowSet := Vector Row 16

/-- A screen's render table: the row sets of MONO to FOURTEEN and NS. -/
abbrev RenderTable := Vector RowSet 7

/-- The number of channels of each row set's format (02, 2.1). -/
def formatChannels (r : RowSetId) : Nat :=
  match r with
  | 0 => 1
  | 1 => 2
  | 2 => 6
  | 3 => 8
  | 4 => 12
  | 5 => 14
  | 6 => 2

/-- R23: feed n reads channel n at level 0 with polarity +, up to the number of channels of the format. -/
def defaultRow (r : RowSetId) (f : FeedId) : Row :=
  if h : f.val < 14 then
    if f.val < formatChannels r then ⟨false, [⟨⟨f.val, h⟩, 0, false⟩]⟩ else ⟨false, []⟩
  else ⟨false, []⟩

/-- The factory default render table (R23). -/
def defaultRenderTable : RenderTable := Tab.build fun r => Tab.build fun f => defaultRow r f

/-- The effective format of a configuration: a program format code, NS, or none for MUTE (R29). -/
inductive RenderFormat where
  | none
  | program (code : FormatCode)
  | ns
deriving DecidableEq, Repr

/-- A rendering configuration (R29). -/
structure Configuration where
  source : Source
  format : RenderFormat
  rows : Option RowSet
  surroundDelay : Option Nat
deriving DecidableEq, Repr

/-- The kind of the block being rendered (R30). -/
inductive RampState where
  | steady | rampOut | rampIn
deriving DecidableEq, Repr

/-- The surround filter of a screen (R26, R27). -/
inductive SurroundFilter where
  | notHeld
  | held (c1 c2 : SlotId)
  | short
deriving DecidableEq, Repr

/-- The cover terms of one cover feed in the block being rendered: the dead feed whose terms it carries, one that joins and
one that leaves in this block (R35, R36). -/
structure Cover where
  steady : Option FeedId
  joining : Option FeedId
  leaving : Option FeedId
deriving DecidableEq, Repr

def Cover.none : Cover := ⟨.none, .none, .none⟩

/-- A renderer context (spec/02). -/
structure Renderer where
  table : RenderTable
  selected : Source
  current : Configuration
  ramp : RampState
  filter : SurroundFilter
  covers : Vector Cover 16
deriving DecidableEq, Repr

/-! ### Settings of a screen (R179) -/

/-- The two screen states a screen may take at start-up (R123). -/
inductive PowerOnState where
  | dark | idle
deriving DecidableEq, Repr

structure Settings where
  nMiss : Nat
  /-- The fallback source: true for NONSYNC, false for MUTE (R29). -/
  fallbackNonsync : Bool
  surroundDelay : Nat
  cover : Vector (Option FeedId) 16
  senseFitted : BitVec 16
  deadFloor : Int
  deadBlocks : Nat
  hotBlocks : Nat
  overThreshold : Int
  overBlocks : Nat
  exposureMask : BitVec 16
  exposureLimit : Int
  powerOnPreset : PresetId
  powerOnState : PowerOnState
  autoStart : Bool
  autoEnd : Bool
  lockAtStart : Bool
  freeRunLimit : Nat
deriving DecidableEq, Repr

/-- The defaults of R8, R24, R29, R34, R78, R82 and R123. -/
def Settings.default : Settings where
  nMiss := 4
  fallbackNonsync := false
  surroundDelay := 0
  cover := Tab.all none
  senseFitted := 0xFFFF#16
  deadFloor := -400
  deadBlocks := 30
  hotBlocks := 50
  overThreshold := -10
  overBlocks := 3
  exposureMask := 0xFFFF#16
  exposureLimit := -180
  powerOnPreset := 0
  powerOnState := .idle
  autoStart := false
  autoEnd := false
  lockAtStart := false
  freeRunLimit := 300

/-! ### Section pool and equaliser (spec/04) -/

/-- The five coefficients of a section, 4,194,304 standing for 1.0 (R47). -/
structure Coefficients where
  b0 : Word
  b1 : Word
  b2 : Word
  a1 : Word
  a2 : Word
deriving DecidableEq, Repr

/-- A pool slot's section: coefficients and four state values (04, 4.1). -/
structure Biquad where
  coef : Coefficients
  x1 : Sample
  x2 : Sample
  y1 : Sample
  y2 : Sample
deriving DecidableEq, Repr

/-- One feed's entry of a preset (R63). -/
structure FeedEntry where
  sections : List Coefficients
  trim : Int
  delay : Nat
deriving DecidableEq, Repr

/-- A preset: one entry per feed (R63). -/
abbrev Preset := Vector FeedEntry 16

/-- The factory default preset (R63). -/
def Preset.factory : Preset := Tab.all ⟨[], 0, 0⟩

/-- A running or incoming record of a feed (R62). -/
structure FeedRecord where
  chain : List SlotId
  trim : Int
  delay : Nat
deriving DecidableEq, Repr

/-- A cue as a report names it: its screen, its index and the taking that handed the action (R143). -/
structure CueRef where
  screen : ScreenId
  index : Nat
  taking : Nat
deriving DecidableEq, Repr

/-- Who asked for an activation: a SELECT PRESET by its ticket, a PRESET cue, or an opening return of a chase (R66, R138). -/
inductive RequestOrigin where
  | command (ticket : Nat)
  | cue (ref : CueRef)
  | openingReturn
deriving DecidableEq, Repr

/-- An activation request (R66). -/
structure Request where
  preset : PresetId
  origin : RequestOrigin
deriving DecidableEq, Repr

/-- The switch state of a screen, with the request it carries out (R69, R70); a CUT_OUT holds its claim (R61). -/
inductive Switch where
  | none
  | crossfade (request : Request)
  | cutOut (request : Request) (claim : Nat)
  | cutIn (request : Request)
deriving DecidableEq, Repr

/-- A PRESET record kept by RECALL until the exchange boundary, with PRESET0's commissioned trims (R65, R191). -/
structure DeferredPreset where
  preset : PresetId
  content : Preset
  commissioned : Option (Vector Int 16)
deriving DecidableEq, Repr

/-- The equaliser of one screen. -/
structure Equaliser where
  bank : Vector Preset 4
  active : PresetId
  running : Vector FeedRecord 16
  incoming : Option (Vector FeedRecord 16)
  switch : Switch
  pending : Option Request
  /-- The commissioned mark: the sixteen commissioned trims while it is set (R76). -/
  commissioned : Option (Vector Int 16)
  /-- The pool's cause of POOL_SHORT (R71). -/
  poolShort : Bool
  deferred : Option DeferredPreset
  /-- WAKE was given and the chains are to be zeroed at the next boundary (R77). -/
  zeroDue : Bool
deriving DecidableEq, Repr

/-- R80, with the factory presets. -/
def Equaliser.reset : Equaliser where
  bank := Tab.all Preset.factory
  active := 0
  running := Tab.all ⟨[], 0, 0⟩
  incoming := .none
  switch := .none
  pending := .none
  commissioned := .none
  poolShort := false
  deferred := .none
  zeroDue := false

/-- What the four screens share: the 384 slots and the free list (R59, R60). -/
structure Pool where
  slots : Vector Biquad 384
  free : List SlotId
deriving DecidableEq, Repr

/-! ### Signal path (spec/03) -/

/-- The state of an output gate (R49). -/
inductive Gate where
  | opened | closing | closed | opening
deriving DecidableEq, Repr

/-- The signal path of one feed: its delay memory, newest first (a sample not listed is 0, R44), its dead gate, and the
meter and clip count of the block so far (R53, R54), and the sample last sent on the output lane. -/
structure FeedPath where
  memory : List Sample
  deadGate : Gate
  peak : Nat
  energy : Nat
  clips : Nat
  output : Sample
deriving DecidableEq, Repr

/-- The level inputs of a block, held for all its samples (R45). -/
structure LevelInputs where
  fader : Int
  ceiling : Int
  offset : Int
  trims : Vector Int 16
  /-- The trims of the incoming records in a crossfade block. -/
  newTrims : Vector Int 16
  hot : Vector Bool 16
deriving DecidableEq, Repr

/-- The steps of opcode_table.json that may be taken at a boundary ahead of BLOCK_BOUNDARY itself. -/
inductive SubStep where
  | switchProgress | segment | fade | freeRun | calibration
  | pulse (line : LineId)
deriving DecidableEq, Repr

/-- The signal path of a screen. -/
structure SignalPath where
  /-- The index of the next sample of the block being rendered, 0 to 480. -/
  index : Nat
  screenGate : Gate
  evacuationGate : Gate
  calibrationGate : Gate
  levels : LevelInputs
  feeds : Vector FeedPath 16
  /-- The sub-steps of the coming boundary that were given as steps of their own. -/
  taken : List SubStep
deriving DecidableEq, Repr

/-! ### Level watch (spec/05) -/

/-- A feed record (R81), with what the scanner keeps of the feed's line (R84, R87). -/
structure Feed where
  dead : Bool
  hot : Bool
  overLevel : Bool
  clip : Bool
  deadCount : Nat
  hotCount : Nat
  coolCount : Nat
  overCount : Nat
  underCount : Nat
  clipFreeCount : Nat
  clipsSinceRead : Nat
  lastPeak : Nat
  lastMean : Nat
  peakHold : Nat
  lastSense : Option Nat
  /-- Tcal and Scal when VERIFIED, none when UNVERIFIED. -/
  calibration : Option (Int × Nat)
  /-- Whether the feed was sense-watched at the last evaluation (R88). -/
  watched : Bool
  /-- Whether an output sample of the block so far was a tone sample (R115). -/
  toneInBlock : Bool
  /-- The largest reading of the block so far that was used for block sense (R87). -/
  blockSense : Option Nat
  /-- The latest reading of the feed's line (R84). -/
  latest : Option Nat
  /-- The line's first reading after joining the rotation is still to come (R84). -/
  firstDue : Bool
  /-- The feed left DEAD by a VERIFIED result of the boundary being made (R90). -/
  revived : Bool
deriving DecidableEq, Repr

/-- R107, R122. -/
def Feed.reset : Feed where
  dead := false
  hot := false
  overLevel := false
  clip := false
  deadCount := 0
  hotCount := 0
  coolCount := 0
  overCount := 0
  underCount := 0
  clipFreeCount := 0
  clipsSinceRead := 0
  lastPeak := 0
  lastMean := 0
  peakHold := 0
  lastSense := none
  calibration := none
  watched := false
  toneInBlock := false
  blockSense := none
  latest := none
  firstDue := true
  revived := false

/-- A screen's loudness governor (R95). -/
structure Governor where
  blockCount : Nat
  segmentSum : Nat
  ring : Vector Nat 60
  oldest : Fin 60
  windowSum : Nat
  ceiling : Int
  /-- Segments completed since the last reset, holding at 60 (R106). -/
  completed : Nat
deriving DecidableEq, Repr

/-- R97. -/
def Governor.reset : Governor := ⟨0, 0, Tab.all 0, 0, 0, 0, 0⟩

/-- The sense scanner: the number of the next conversion slot and the rotation pointer (R84, R85). -/
structure Scanner where
  slot : Nat
  pointer : Option SenseLine
deriving DecidableEq, Repr

/-- The fourteen alarm kinds, in the order of their codes (R198). -/
inductive AlarmKind where
  | overLevel | clip | dead | hot | lost | formatUnknown | poolShort | governing
  | stationDown | stationFault | loopCongested | evacuation | storeFault | overflow
deriving DecidableEq, Repr

/-- The subject of an alarm (R99). -/
inductive Scope where
  | device
  | screen (i : ScreenId)
  | feed (i : ScreenId) (f : FeedId)
  | station (k : StationId)
deriving DecidableEq, Repr

/-- The state of an alarm record (R99). -/
inductive AlarmState where
  | raised | held | ended
deriving DecidableEq, Repr

/-- An alarm record (R99). -/
structure AlarmRecord where
  kind : AlarmKind
  scope : Scope
  state : AlarmState
  firstRaised : BitVec 32
  lastChange : BitVec 32
  count : Nat
deriving DecidableEq, Repr

/-- The alarm table: the ordinary records in order, the record of place 64, and whether OVERFLOW stands (R99, R102). -/
structure AlarmTable where
  ordinary : List AlarmRecord
  overflow : Option AlarmRecord
  overflowStands : Bool
deriving DecidableEq, Repr

/-! ### Calibration (spec/06) -/

/-- The tone feed of a sweep, its step 1 to 10, the block of the step 1 to 10, and the largest reading of blocks 6 to 10
so far (R111, R113). -/
structure Tone where
  feed : FeedId
  step : Nat
  block : Nat
  reading : Nat
deriving DecidableEq, Repr

/-- A calibration request (R108, R109).  The head is STARTING while it has no tone and SWEEPING once it has one; every
request behind the head is WAITING. -/
structure CalRequest where
  ticket : Nat
  screen : ScreenId
  mask : BitVec 16
  /-- The feeds of the mask that the sweep has not come to yet, ascending. -/
  left : List FeedId
  tone : Option Tone
  verified : List (FeedId × Int × Nat)
  overrange : BitVec 16
  failed : BitVec 16
  skipped : BitVec 16
deriving DecidableEq, Repr

/-! ### Show control (spec/07) -/

/-- The screen states (07, 7.1). -/
inductive ScreenState where
  | dark | idle | inShow
deriving DecidableEq, Repr

/-- What the fader does next: hold its value, take a value at the next block, or run a fade from `start` to `target` over
`duration` blocks, `elapsed` of them gone (R57). -/
inductive FaderMove where
  | hold
  | setNext (value : Int)
  | fade (start target : Int) (duration elapsed : Nat)
deriving DecidableEq, Repr

/-- The opening state of a show: fader, preset, source, set flags of the screen's own lines, lock (R126). -/
structure Opening where
  fader : Int
  preset : PresetId
  source : Source
  lines : List (LineId × Bool)
  lock : Bool
deriving DecidableEq, Repr

/-- The show clock (R134). -/
inductive ShowClock where
  | none
  | waiting
  | tracking (position : Nat)
  | freeRun (position count : Nat)
  | frozen (position : Nat)
deriving DecidableEq, Repr

/-- What a cue does (R131). -/
inductive CueAction where
  | fade (target : Int) (duration : Nat)
  | preset (n : PresetId)
  | source (source : Source)
  | lineSet (l : LineId)
  | lineClear (l : LineId)
  | linePulse (l : LineId) (duration : Nat)
  | order (address code argument : Nat)
  | lock (on : Bool)
deriving DecidableEq, Repr

/-- The outcome of a cue (R131). -/
inductive CueOutcome where
  | none | done | pending | delivered | failedPool | failedQueue | failedStation
deriving DecidableEq, Repr

/-- A cue record (R131), with the serial number of its latest taking (R143). -/
structure Cue where
  time : Nat
  action : CueAction
  enabled : Bool
  taken : Bool
  outcome : CueOutcome
  taking : Nat
deriving DecidableEq, Repr

/-- A show controller (spec/07, and the screen's part of spec/09). -/
structure ShowControl where
  state : ScreenState
  sleepHeld : Bool
  /-- The fader value of the block being rendered. -/
  fader : Int
  move : FaderMove
  lock : Bool
  opening : Option Opening
  clock : ShowClock
  /-- The suspension with its position, which is none while WAITING (R139). -/
  suspension : Option (Option Nat)
  /-- A chase due after RESUME, from the suspension position (R139, R170). -/
  resumeFrom : Option (Option Nat)
  evacuationMute : Bool
  /-- The last show position evaluated (R128). -/
  lastEvaluated : Option Nat
  cues : List Cue
deriving DecidableEq, Repr

/-- R149, R171, with the default power-on state IDLE. -/
def ShowControl.reset : ShowControl where
  state := .idle
  sleepHeld := false
  fader := 0
  move := .hold
  lock := false
  opening := none
  clock := .none
  suspension := none
  resumeFrom := none
  evacuationMute := false
  lastEvaluated := none
  cues := []

/-- The owner of a cue line (R144). -/
inductive LineOwner where
  | house
  | screen (i : ScreenId)
deriving DecidableEq, Repr

/-- The role of a cue line (R144). -/
inductive LineRole where
  | plain
  | alarmLamp (i : ScreenId)
  | evac
deriving DecidableEq, Repr

/-- A cue line record (R144). -/
structure CueLine where
  owner : LineOwner
  role : LineRole
  inverted : Bool
  flag : Bool
  pulse : Nat
  pulseScreen : Option ScreenId
deriving DecidableEq, Repr

/-- The factory default line, with no flag and no pulse (R144, R149). -/
def CueLine.reset : CueLine := ⟨.house, .plain, false, false, 0, none⟩

/-! ### Cue loop (spec/08) -/

/-- Who gave an order (R154). -/
inductive OrderOrigin where
  | cue (ref : CueRef)
  | port (p : PortId)
deriving DecidableEq, Repr

/-- Where an order goes: a numbered ORDER to a station, or a BROADCAST to an address 9 to 15 (R154). -/
inductive OrderForm where
  | order (k : StationId)
  | broadcast (address : Nat)
deriving DecidableEq, Repr

/-- An order of the transmit queue (R154). -/
structure Order where
  form : OrderForm
  code : Nat
  argument : Nat
  origin : OrderOrigin
deriving DecidableEq, Repr

/-- The evacuation order: a BROADCAST without an origin (R152, R155). -/
structure EvacOrder where
  address : Nat
  code : Nat
  argument : Nat
deriving DecidableEq, Repr

/-- An order sent and not yet acknowledged (R153). -/
structure Outstanding where
  number : Nat
  code : Nat
  argument : Nat
  origin : OrderOrigin
deriving DecidableEq, Repr

/-- The states of a station (R153). -/
inductive StationState where
  | absent | joining | up | busy | down
deriving DecidableEq, Repr

/-- The frame due for a station (R153). -/
inductive FrameDue where
  | probe | restart
deriving DecidableEq, Repr

/-- A station record (R153). -/
structure Station where
  state : StationState
  next : Nat
  oldest : Nat
  outstanding : List Outstanding
  /-- The index on the outstanding list from which orders are due to be sent again. -/
  resend : Option Nat
  retry : Nat
  zone : Option Nat
  fault : Bool
  /-- The instant of the station timer's expiry, in conversion slots of 125 µs. -/
  timer : Option Nat
  due : Option FrameDue
  /-- The STATION_DOWN condition of the station (R160). -/
  downStands : Bool
deriving DecidableEq, Repr

/-- R165, for a station that is not enabled. -/
def Station.reset : Station := ⟨.absent, 0, 0, [], none, 0, none, false, none, none, false⟩

/-- A frame of the part on the loop (08, 8.1). -/
inductive LoopFrame where
  | order (k : StationId) (number : Nat) (replyWanted : Bool) (code argument : Nat)
  | broadcast (address code argument : Nat) (origin : Option OrderOrigin)
  | probe (k : StationId)
  | restart (k : StationId)
deriving DecidableEq, Repr

/-- The loop; AWAITING holds the instant at which the reply timer expires, in conversion slots of 125 µs (R151). -/
inductive LoopState where
  | free
  | sending (frame : LoopFrame)
  | awaiting (k : StationId) (timer : Nat)
deriving DecidableEq, Repr

/-- The station table with the loop settings (R152). -/
structure StationTable where
  enabled : BitVec 8
  replyTimeout : Nat
  retryLimit : Nat
  evacuation : Option EvacOrder
deriving DecidableEq, Repr

/-- The factory default station table (R152). -/
def StationTable.default : StationTable := ⟨0#8, 20, 3, none⟩

/-- Where the transmitter took the frame that is being sent: the evacuation slot, a station's due frame, a resend position, or a
place of the transmit queue (R156). -/
inductive FrameSource where
  | evacuation
  | due
  | resend (position : Nat)
  | queue (place : Nat)
deriving DecidableEq, Repr

/-- The loop controller (spec/08). -/
structure Loop where
  table : StationTable
  state : LoopState
  queue : List Order
  evacuationSlot : Option EvacOrder
  congested : Bool
  stations : Vector Station 8
  /-- The conversion slot in which the reply timer last expired: a TALLY of that instant comes after the expiry (R151; log 6). -/
  expiredAt : Option Nat
  /-- The conversion slot in which the loop last became FREE: a frame that becomes due in it joins the judgement (R156; log 25). -/
  freedAt : Option Nat
  /-- Where the frame taken last came from (R156; log 25). -/
  source : Option FrameSource
deriving DecidableEq, Repr

/-! ### Safety input (spec/09) -/

/-- The safety input unit: whether the recognised state is ASSERTED, and the previous sample (R166). -/
structure SafetyInput where
  asserted : Bool
  previous : Option Bool
deriving DecidableEq, Repr

/-! ### Control ports (spec/10) -/

/-- The phases of a port (R172). -/
inductive Phase where
  | ready | command | execute | result
deriving DecidableEq, Repr

/-- The three terminations, in the order of their codes (R175). -/
inductive Termination where
  | normal | abrupt | refused
deriving DecidableEq, Repr

/-- The reasons, in the order of their codes (R175). -/
inductive Reason where
  | ok | accepted | invalidOpcode | badLength | badArgument | denied
  | locked | wrongState | busy | tableFull | cueMemoryFull | poolShort
  | commissioned | evacuation | overflow | noSuchTicket | tooLate | storeFault
deriving DecidableEq, Repr

/-- A result record; the payload length of R175 is the length of the payload. -/
structure ResultRecord where
  opcode : Byte
  termination : Termination
  reason : Reason
  payload : List Byte
deriving DecidableEq, Repr

/-- The targets of a staged load, in the order of their codes from 1 (R177, R198). -/
inductive LoadTarget where
  | cueList | renderTable | preset | settings | lineTable | stationTable | accessTable
deriving DecidableEq, Repr

/-- A port's staging; `sent` counts the bytes sent since OPEN LOAD, holding at 65,535 (R177). -/
inductive Staging where
  | closed
  | opened (target : LoadTarget) (bytes : List Byte) (sent : Nat)
  | overflowed (target : LoadTarget) (sent : Nat)
deriving DecidableEq, Repr

/-- A port's entry of the access table (R176). -/
structure Access where
  screens : BitVec 4
  house : Bool
deriving DecidableEq, Repr

/-- A control port (spec/10). -/
structure Port where
  phase : Phase
  /-- The bytes of the window whose command is being executed, the opcode first (R173). -/
  command : List Byte
  result : Option ResultRecord
  staging : Staging
  access : Access
  /-- The bytes shifted out on data out in the port's last window (R172, R174). -/
  dataOut : List Byte
deriving DecidableEq, Repr

/-- R186, with the factory default access (R176). -/
def Port.reset : Port := ⟨.ready, [], none, .closed, ⟨0xF#4, true⟩, []⟩

/-- The kinds of long operation, in the order of R181. -/
inductive OperationKind where
  | calibrate (i : ScreenId) (mask : BitVec 16)
  | selectPreset
  | store
  | recallStored
  | wipeScreen
deriving DecidableEq, Repr

/-- What a DONE entry holds (R181). -/
structure Completed where
  termination : Termination
  reason : Reason
  payload : List Byte
  order : Nat
deriving DecidableEq, Repr

/-- A completion entry: RUNNING while `done` is none (R181). -/
structure Entry where
  ticket : Nat
  owner : PortId
  kind : OperationKind
  done : Option Completed
deriving DecidableEq, Repr

/-- The completion table, the ticket counter and the next done order (R181). -/
structure CompletionTable where
  entries : List Entry
  counter : Nat
  nextOrder : Nat
deriving DecidableEq, Repr

/-! ### Preset store (spec/11) -/

/-- A record place: its five-byte header and its content (R197). -/
structure Place where
  state : Byte
  record : Byte
  length : BitVec 16
  checksum : Byte
  content : List Byte
deriving DecidableEq, Repr

/-- An EMPTY place, at reset and after an erasure: R197 gives its state byte alone, and the other bytes of the header at 0xFF and no
content are the model's (DESIGN CHOICE, log 9); nothing reads them. -/
def Place.empty : Place := ⟨0xFF#8, 0xFF#8, 0xFFFF#16, 0xFF#8, []⟩

/-- DEVICE or a screen: the target of STORE (R190). -/
inductive StoreTarget where
  | device
  | screen (i : ScreenId)
deriving DecidableEq, Repr

/-- The outcome of one record of a RECALL (R191). -/
inductive RecallOutcome where
  | absent | bad | notApplied | applied | deferred
deriving DecidableEq, Repr

/-- The write in progress: the record, the place being programmed and the bytes being programmed into it (R190). -/
structure Writing where
  record : RecordId
  place : PlaceId
  bytes : List Byte
deriving DecidableEq, Repr

/-- The store operation running (R189 to R193). -/
inductive StoreOp where
  | none
  | store (ticket : Nat) (target : StoreTarget) (now : Writing) (left : List RecordId) (written : Nat)
      (retired : List PlaceId) (aborting : Bool)
  | commission (now : Writing)
  | recallStored (ticket : Nat) (target : StoreTarget) (selector : Nat) (left : List RecordId)
      (outcomes : List RecallOutcome)
  | wipe (ticket : Nat) (screen : ScreenId) (left : List (RecordId × PlaceId)) (erased : Nat)
deriving DecidableEq, Repr

/-- The straps (R188). -/
structure Straps where
  storeBypass : Bool
  quietStart : Bool
deriving DecidableEq, Repr

/-- The preset store (spec/11). -/
structure Store where
  places : Vector Place 32
  /-- Places the store treats as RETIRED (R190). -/
  retired : Vector Bool 32
  map : Vector (Option PlaceId) 29
  faults : Vector Bool 29
  op : StoreOp
deriving DecidableEq, Repr

/-- Whether the part is counting the stabilisation of start-up, begun by power-on or by the RESET line, or runs (R188). -/
inductive Power where
  | stabilising (byPowerOn : Bool)
  | running
deriving DecidableEq, Repr

/-- Everything that belongs to one screen. -/
structure Screen where
  lane : Lane
  renderer : Renderer
  settings : Settings
  equaliser : Equaliser
  path : SignalPath
  feeds : Vector Feed 16
  governor : Governor
  control : ShowControl
deriving DecidableEq, Repr

/-- The state of the part and the queue of waiting commands. -/
structure State where
  pending : List Instr
  power : Power
  straps : Straps
  houseTime : BitVec 32
  screens : Vector Screen 4
  nonSync : NonSync
  pool : Pool
  scanner : Scanner
  alarms : AlarmTable
  calibration : List CalRequest
  lines : Vector CueLine 16
  loop : Loop
  safety : SafetyInput
  ports : Vector Port 5
  completions : CompletionTable
  store : Store
  /-- Serial number of the last cue taking; the model's own (R143, log 11). -/
  takings : Nat
  /-- Index of the next free value of Config; the model's own. -/
  freeCount : Nat
deriving DecidableEq, Repr

/-! ### Reset -/

/-- The configuration of the fallback MUTE: every feed silent (R29, R40). -/
def Configuration.mute : Configuration := ⟨.mute, .none, none, none⟩

/-- R40, with the factory default table and settings. -/
def Renderer.reset : Renderer where
  table := defaultRenderTable
  selected := .program
  current := .mute
  ramp := .steady
  filter := .notHeld
  covers := Tab.all .none

/-- R58. -/
def FeedPath.reset : FeedPath := ⟨[], .opened, 0, 0, 0, 0#24⟩

/-- R45, R58: every gate OPEN on a screen in IDLE; the levels of the reset state. -/
def SignalPath.reset : SignalPath where
  index := 0
  screenGate := .opened
  evacuationGate := .opened
  calibrationGate := .opened
  levels := ⟨0, 0, 0, Tab.all 0, Tab.all 0, Tab.all false⟩
  feeds := Tab.all .reset
  taken := []

/-- A screen at the end of start-up with factory defaults. -/
def Screen.reset : Screen where
  lane := .reset
  renderer := .reset
  settings := .default
  equaliser := .reset
  path := .reset
  feeds := Tab.all .reset
  governor := .reset
  control := .reset

/-- R80: every slot free, in ascending order; the slots' leftover contents are 0 (log 2). -/
def Pool.reset : Pool where
  slots := Tab.all ⟨⟨0#24, 0#24, 0#24, 0#24, 0#24⟩, 0#24, 0#24, 0#24, 0#24⟩
  free := List.finRange 384

/-- R194, for a store that has never been written (log 1). -/
def Store.blank : Store where
  places := Tab.all .empty
  retired := Tab.all false
  map := Tab.all none
  faults := Tab.all false
  op := .none

/-- The machine right after start-up from power-on with an EMPTY store and both straps released (R188; log 1): the reset
columns of R19, R40, R58, R80, R107, R122, R149, R165, R171, R186 and R194. -/
def State.reset : State where
  pending := []
  power := .running
  straps := ⟨false, false⟩
  houseTime := 0#32
  screens := Tab.all .reset
  nonSync := ⟨none, []⟩
  pool := .reset
  scanner := ⟨0, none⟩
  alarms := ⟨[], none, false⟩
  calibration := []
  lines := Tab.all .reset
  loop := ⟨.default, .free, [], none, false, Tab.all .reset, none, none, none⟩
  safety := ⟨false, none⟩
  ports := Tab.all .reset
  completions := ⟨[], 1, 0⟩
  store := .blank
  takings := 0
  freeCount := 0

/-! ### Views and updates of State -/

namespace State

def screen (s : State) (i : ScreenId) : Screen := Tab.get s.screens i
def port (s : State) (p : PortId) : Port := Tab.get s.ports p
def line (s : State) (l : LineId) : CueLine := Tab.get s.lines l
def station (s : State) (k : StationId) : Station := Tab.get s.loop.stations k

end State

end Sys2Proof.Machine
end

