-- ==== Sys2Proof/Machine/Ops.lean ====
section
/-!
DEFINITION. The named updates of State, the guards of events, the completion table (R181), and the running of a port
command from EXECUTE to RESULT (R173, R175).
-/

namespace Sys2Proof.Machine

namespace State

def modScreen (s : State) (i : ScreenId) (f : Screen → Screen) : State :=
  { s with screens := Tab.modify s.screens i f }

def modLane (s : State) (i : ScreenId) (f : Lane → Lane) : State :=
  s.modScreen i fun c => { c with lane := f c.lane }

def modRenderer (s : State) (i : ScreenId) (f : Renderer → Renderer) : State :=
  s.modScreen i fun c => { c with renderer := f c.renderer }

def modSettings (s : State) (i : ScreenId) (f : Settings → Settings) : State :=
  s.modScreen i fun c => { c with settings := f c.settings }

def modEqualiser (s : State) (i : ScreenId) (f : Equaliser → Equaliser) : State :=
  s.modScreen i fun c => { c with equaliser := f c.equaliser }

def modPath (s : State) (i : ScreenId) (f : SignalPath → SignalPath) : State :=
  s.modScreen i fun c => { c with path := f c.path }

def modFeeds (s : State) (i : ScreenId) (f : Vector Feed 16 → Vector Feed 16) : State :=
  s.modScreen i fun c => { c with feeds := f c.feeds }

def modFeed (s : State) (i : ScreenId) (k : FeedId) (f : Feed → Feed) : State :=
  s.modFeeds i fun v => Tab.modify v k f

def modGovernor (s : State) (i : ScreenId) (f : Governor → Governor) : State :=
  s.modScreen i fun c => { c with governor := f c.governor }

def modControl (s : State) (i : ScreenId) (f : ShowControl → ShowControl) : State :=
  s.modScreen i fun c => { c with control := f c.control }

def modPort (s : State) (p : PortId) (f : Port → Port) : State :=
  { s with ports := Tab.modify s.ports p f }

def modLine (s : State) (l : LineId) (f : CueLine → CueLine) : State :=
  { s with lines := Tab.modify s.lines l f }

def modLoop (s : State) (f : Loop → Loop) : State := { s with loop := f s.loop }

def modStation (s : State) (k : StationId) (f : Station → Station) : State :=
  s.modLoop fun l => { l with stations := Tab.modify l.stations k f }

def modPool (s : State) (f : Pool → Pool) : State := { s with pool := f s.pool }

def modStore (s : State) (f : Store → Store) : State := { s with store := f s.store }

def withAlarms (s : State) (a : AlarmTable) : State := { s with alarms := a }

def withCompletions (s : State) (t : CompletionTable) : State := { s with completions := t }

def withCalibration (s : State) (q : List CalRequest) : State := { s with calibration := q }

def feed (s : State) (i : ScreenId) (f : FeedId) : Feed := Tab.get (s.screen i).feeds f

def control (s : State) (i : ScreenId) : ShowControl := (s.screen i).control

def equaliser (s : State) (i : ScreenId) : Equaliser := (s.screen i).equaliser

end State

/-- The four screens, the sixteen feeds, lines, the eight stations and the five ports in ascending order. -/
def screenIds : List ScreenId := List.finRange 4
def feedIds : List FeedId := List.finRange 16
def lineIds : List LineId := List.finRange 16
def stationIds : List StationId := List.finRange 8
def portIds : List PortId := List.finRange 5

/-- The event of a row changes the state by `f` while the part runs; while it counts the stabilisation of start-up the
event reaches no block (R188). -/
def whenRunning (s : State) (f : State → State) : State :=
  match s.power with
  | .running => f s
  | .stabilising _ => s

/-- A block boundary of the screen is due: 480 samples of the block have been sent, or the first aligned boundary has
arrived (R2). -/
def boundaryDue (c : Screen) : Bool :=
  480 ≤ c.path.index || c.lane.alignIn == some 0

/-- A sub-step of a screen's boundary, given as a step of its own, acts while the boundary is due, the sub-step has not
been taken at it, and what it stands for has come (log 4). -/
def atBoundary (s : State) (i : ScreenId) (sub : SubStep) (come : State → Bool) (f : State → State) : State :=
  whenRunning s fun s =>
    if boundaryDue (s.screen i) && !(s.screen i).path.taken.contains sub && come s then
      (f s).modPath i fun p => { p with taken := sub :: p.taken }
    else s

/-- Whether a sub-step of the screen's coming boundary has already been taken. -/
def subStepTaken (s : State) (i : ScreenId) (sub : SubStep) : Bool := (s.screen i).path.taken.contains sub

/-! ### Completion table (R181) -/

/-- The ticket after `t`, wrapping from 255 to 1. -/
def nextTicket (t : Nat) : Nat := if t ≥ 255 then 1 else t + 1

/-- The first ticket from `t` on that no entry holds; `fuel` bounds the search, 9 being enough for 8 entries. -/
def freeTicket (entries : List Entry) : Nat → Nat → Nat
  | 0, t => t
  | fuel + 1, t => if entries.any fun e => e.ticket == t then freeTicket entries fuel (nextTicket t) else t

/-- Whether a completion entry is free: the table holds at most 8. -/
def completionFree (s : State) : Bool := s.completions.entries.length < 8

/-- The ticket that the next long operation gets. -/
def drawTicket (s : State) : Nat := freeTicket s.completions.entries 9 s.completions.counter

/-- Take a completion entry for a long operation of a port, in state RUNNING, under the drawn ticket. -/
def takeEntry (s : State) (p : PortId) (kind : OperationKind) : State :=
  let t := drawTicket s
  s.withCompletions
    { s.completions with
      entries := s.completions.entries ++ [⟨t, p, kind, none⟩]
      counter := nextTicket t }

/-- The entry of a ticket. -/
def findEntry (s : State) (ticket : Nat) : Option Entry := s.completions.entries.find? fun e => e.ticket == ticket

/-- Make the RUNNING entry of a ticket DONE, next in the done order (R181). -/
def finishEntry (s : State) (ticket : Nat) (t : Termination) (r : Reason) (payload : List Byte) : State :=
  s.withCompletions
    { s.completions with
      entries := s.completions.entries.map fun e =>
        if e.ticket == ticket && e.done.isNone then { e with done := some ⟨t, r, payload, s.completions.nextOrder⟩ }
        else e
      nextOrder := s.completions.nextOrder + 1 }

/-! ### Port commands (R173, R175) -/

/-- What the owner block answers to a command: the result's termination, reason and payload, and the state it leaves. -/
structure Answer where
  termination : Termination
  reason : Reason
  payload : List Byte
  state : State

/-- REFUSED: an empty payload, and nothing changes (R175). -/
def refuse (s : State) (r : Reason) : Answer := ⟨.refused, r, [], s⟩

/-- NORMAL, OK with a payload. -/
def accept (s : State) (payload : List Byte) : Answer := ⟨.normal, .ok, payload, s⟩

/-- Place a result record in the port's result buffer; the port enters RESULT (R173). -/
def placeResult (s : State) (p : PortId) (r : ResultRecord) : State :=
  s.modPort p fun q => { q with phase := .result, command := [], result := some r }

/-- The result record of an answer to a command with this opcode. -/
def Answer.record (a : Answer) (opcode : Byte) : ResultRecord := ⟨opcode, a.termination, a.reason, a.payload⟩

/-- The port is in EXECUTE with exactly this command's window (R173). -/
def executing (s : State) (p : PortId) (opcode : Byte) (params : List Byte) : Bool :=
  (s.port p).phase == .execute && (s.port p).command == opcode :: params

/-- Execute a port command: in EXECUTE, with the window that names it, the parameter count is judged, the owner block
answers, and its result is placed (R173, R175).  Where the port is not in EXECUTE with that window the command is not
being executed, and nothing changes (R174). -/
def runCommand (s : State) (p : PortId) (opcode : Byte) (params : List Byte) (lengthFits : Nat → Bool)
    (body : State → Answer) : State :=
  whenRunning s fun s =>
    if executing s p opcode params then
      let a := if lengthFits params.length then body s else refuse s .badLength
      placeResult a.state p (a.record opcode)
    else s

/-- Whether the port has the screen in its screen mask (R176). -/
def covers (s : State) (p : PortId) (i : ScreenId) : Bool := (s.port p).access.screens.getLsbD i.val

/-- Whether the port holds the house right (R176). -/
def hasHouseRight (s : State) (p : PortId) : Bool := (s.port p).access.house

/-- Whether the screen's show lock is set (R130). -/
def locked (s : State) (i : ScreenId) : Bool := (s.control i).lock

/-- The first reason of a list of checks whose condition holds. -/
def firstReason (checks : List (Bool × Reason)) : Option Reason :=
  (checks.find? fun c => c.1).map Prod.snd

/-- Refuse for the first check that applies, and answer otherwise. -/
def checked (s : State) (checks : List (Bool × Reason)) (body : Answer) : Answer :=
  match firstReason checks with
  | some r => refuse s r
  | none => body

end Sys2Proof.Machine
end

