-- ==== Sys2Proof/Machine/Operands.lean ====
section
/-!
DEFINITION. Numbers in bytes: the parameters of a command and the items of a payload (R173, R198), and the codes of named
values (12.2, 12.3, R198).
-/

namespace Sys2Proof.Machine

/-! ### Reading -/

/-- The unsigned value of bytes, most significant first (12, opening). -/
def natOfBytes (bs : List Byte) : Nat := bs.foldl (fun n b => n * 256 + b.toNat) 0

/-- The two's-complement value of bytes, most significant first. -/
def intOfBytes (bs : List Byte) : Int :=
  let n := natOfBytes bs
  if 2 * n < 256 ^ bs.length then (n : Int) else (n : Int) - 256 ^ bs.length

/-- `width` bytes from an offset. -/
def slice (bs : List Byte) (offset width : Nat) : List Byte := (bs.drop offset).take width

/-- An unsigned field of a window or of staged content. -/
def natField (bs : List Byte) (offset width : Nat) : Nat := natOfBytes (slice bs offset width)

/-- A signed field of a window or of staged content. -/
def intField (bs : List Byte) (offset width : Nat) : Int := intOfBytes (slice bs offset width)

/-- Number `n` of a numbering from 1 to `k`, as an index from 0. -/
def numbered (k n : Nat) : Option (Fin k) :=
  if h : 1 ≤ n ∧ n ≤ k then some ⟨n - 1, by omega⟩ else none

/-- Number `n` of a numbering from 0, as an index. -/
def indexed (k n : Nat) : Option (Fin k) :=
  if h : n < k then some ⟨n, h⟩ else none

/-- The screen a parameter names. -/
def screenField (bs : List Byte) (offset : Nat) : Option ScreenId := numbered 4 (natField bs offset 1)

/-- The feed a parameter names. -/
def feedField (bs : List Byte) (offset : Nat) : Option FeedId := numbered 16 (natField bs offset 1)

/-- A source code (12.3). -/
def sourceOfCode (n : Nat) : Option Source :=
  match n with
  | 0 => some .program
  | 1 => some .nonsync
  | 2 => some .mute
  | _ => none

/-- A flag code: 0 clear or OFF, 1 set or ON (12.3). -/
def flagOfCode (n : Nat) : Option Bool :=
  match n with
  | 0 => some false
  | 1 => some true
  | _ => none

/-- A load target code (R198). -/
def targetOfCode (n : Nat) : Option LoadTarget :=
  match n with
  | 1 => some .cueList
  | 2 => some .renderTable
  | 3 => some .preset
  | 4 => some .settings
  | 5 => some .lineTable
  | 6 => some .stationTable
  | 7 => some .accessTable
  | _ => none

/-- An alarm kind code (R198). -/
def alarmKindOfCode (n : Nat) : Option AlarmKind :=
  match n with
  | 1 => some .overLevel
  | 2 => some .clip
  | 3 => some .dead
  | 4 => some .hot
  | 5 => some .lost
  | 6 => some .formatUnknown
  | 7 => some .poolShort
  | 8 => some .governing
  | 9 => some .stationDown
  | 10 => some .stationFault
  | 11 => some .loopCongested
  | 12 => some .evacuation
  | 13 => some .storeFault
  | 14 => some .overflow
  | _ => none

/-! ### Writing (R198) -/

/-- The low `width` bytes of a number, most significant first. -/
def bytesOf : Nat → Nat → List Byte
  | 0, _ => []
  | width + 1, n => bytesOf width (n / 256) ++ [BitVec.ofNat 8 n]

/-- A signed number in `width` bytes, in two's complement. -/
def signedBytes (width : Nat) (v : Int) : List Byte := bytesOf width (v % (256 ^ width : Nat)).toNat

/-- One byte. -/
def byte (n : Nat) : List Byte := bytesOf 1 n

/-- A flag item: 1 or 0. -/
def flagByte (b : Bool) : List Byte := byte b.toNat

/-- An item that may be absent: a presence byte, then the item's own bytes. -/
def optional {α : Type} (item : α → List Byte) : Option α → List Byte
  | none => byte 0
  | some a => byte 1 ++ item a

/-- A list item: a count byte, then the members. -/
def listed {α : Type} (item : α → List Byte) (xs : List α) : List Byte := byte xs.length ++ xs.flatMap item

/-- A screen, feed or line number counted from 1. -/
def numberByte {k : Nat} (i : Fin k) : List Byte := byte (i.val + 1)

/-- A mask of feeds, in two bytes. -/
def maskBytes (m : BitVec 16) : List Byte := bytesOf 2 m.toNat

def sourceCode : Source → Nat
  | .program => 0
  | .nonsync => 1
  | .mute => 2

def terminationCode : Termination → Nat
  | .normal => 0
  | .abrupt => 1
  | .refused => 2

def reasonCode : Reason → Nat
  | .ok => 0
  | .accepted => 1
  | .invalidOpcode => 2
  | .badLength => 3
  | .badArgument => 4
  | .denied => 5
  | .locked => 6
  | .wrongState => 7
  | .busy => 8
  | .tableFull => 9
  | .cueMemoryFull => 10
  | .poolShort => 11
  | .commissioned => 12
  | .evacuation => 13
  | .overflow => 14
  | .noSuchTicket => 15
  | .tooLate => 16
  | .storeFault => 17

def alarmKindCode : AlarmKind → Nat
  | .overLevel => 1
  | .clip => 2
  | .dead => 3
  | .hot => 4
  | .lost => 5
  | .formatUnknown => 6
  | .poolShort => 7
  | .governing => 8
  | .stationDown => 9
  | .stationFault => 10
  | .loopCongested => 11
  | .evacuation => 12
  | .storeFault => 13
  | .overflow => 14

/-- The two scope bytes of an alarm (R198). -/
def scopeBytes : Scope → List Byte
  | .device => byte 0 ++ byte 0
  | .screen i => numberByte i ++ byte 0
  | .feed i f => numberByte i ++ numberByte f
  | .station k => numberByte k ++ byte 0

def screenStateCode : ScreenState → Nat
  | .dark => 0
  | .idle => 1
  | .inShow => 2

/-- The result record as it is shifted out: the five-byte header of 12.2, then the payload (R174, R175). -/
def ResultRecord.bytes (r : ResultRecord) : List Byte :=
  [r.opcode] ++ byte (terminationCode r.termination) ++ byte (reasonCode r.reason) ++ bytesOf 2 r.payload.length
    ++ r.payload

def phaseCode : Phase → Nat
  | .ready => 0
  | .command => 1
  | .execute => 2
  | .result => 3

end Sys2Proof.Machine
end

