-- ==== Sys2Proof/Machine/Flags.lean ====
section
/-!
DEFINITION. Conditions and what they drive: the alarm table (R98 to R103), the lamp demand, the attention line (R184), the
status byte (12.2) and the relay drives of the cue lines (R146).
-/

namespace Sys2Proof.Machine

/-! ### Alarm records (R99, R100) -/

/-- The record is that of the kind and scope. -/
def AlarmRecord.isFor (r : AlarmRecord) (kind : AlarmKind) (scope : Scope) : Bool :=
  r.kind == kind && r.scope == scope

/-- A record newly created at a start (R100). -/
def newRecord (now : BitVec 32) (kind : AlarmKind) (scope : Scope) : AlarmRecord :=
  ⟨kind, scope, .raised, now, now, 1⟩

/-- A start that finds the record: ENDED becomes RAISED and the count rises, holding at 255 (R99, R100). -/
def AlarmRecord.started (now : BitVec 32) (r : AlarmRecord) : AlarmRecord :=
  match r.state with
  | .ended => { r with state := .raised, lastChange := now, count := min 255 (r.count + 1) }
  | _ => r

/-- An end that finds the record: RAISED becomes ENDED, HELD is removed (R100). -/
def AlarmRecord.finished (now : BitVec 32) (r : AlarmRecord) : Option AlarmRecord :=
  match r.state with
  | .raised => some { r with state := .ended, lastChange := now }
  | .held => none
  | .ended => some r

/-- An acknowledgement: RAISED becomes HELD, ENDED is removed (R100). -/
def AlarmRecord.acknowledged (now : BitVec 32) (r : AlarmRecord) : Option AlarmRecord :=
  match r.state with
  | .raised => some { r with state := .held, lastChange := now }
  | .held => some r
  | .ended => none

/-- OVERFLOW ends when fewer than 48 ordinary records are left (R102). -/
def AlarmTable.settle (now : BitVec 32) (t : AlarmTable) : AlarmTable :=
  if t.overflowStands && t.ordinary.length < 48 then
    { t with overflowStands := false, overflow := t.overflow.bind (AlarmRecord.finished now) }
  else t

/-- The table after the start of an ordinary condition (R100, R102). -/
def AlarmTable.start (now : BitVec 32) (kind : AlarmKind) (scope : Scope) (t : AlarmTable) : AlarmTable :=
  if t.ordinary.any (·.isFor kind scope) then
    { t with ordinary := t.ordinary.map fun r => if r.isFor kind scope then r.started now else r }
  else if t.overflowStands then t
  else if t.ordinary.length < 63 then { t with ordinary := t.ordinary ++ [newRecord now kind scope] }
  else
    { t with
      overflowStands := true
      overflow := some (match t.overflow with
        | none => newRecord now .overflow .device
        | some r => r.started now) }

/-- The table after the end of an ordinary condition (R100). -/
def AlarmTable.finish (now : BitVec 32) (kind : AlarmKind) (scope : Scope) (t : AlarmTable) : AlarmTable :=
  AlarmTable.settle now
    { t with ordinary := t.ordinary.filterMap fun r => if r.isFor kind scope then r.finished now else some r }

/-- The table after the acknowledgement of every record that `chosen` picks (R101). -/
def AlarmTable.acknowledge (now : BitVec 32) (chosen : AlarmRecord → Bool) (t : AlarmTable) : AlarmTable :=
  AlarmTable.settle now
    { t with
      ordinary := t.ordinary.filterMap fun r => if chosen r then r.acknowledged now else some r
      overflow := t.overflow.bind fun r => if chosen r then r.acknowledged now else some r }

/-- The records in table order: the ordinary ones, then OVERFLOW's (R104). -/
def AlarmTable.records (t : AlarmTable) : List AlarmRecord := t.ordinary ++ t.overflow.toList

/-- A condition starts (R98). -/
def alarmStart (s : State) (kind : AlarmKind) (scope : Scope) : State :=
  s.withAlarms (s.alarms.start s.houseTime kind scope)

/-- A condition ends (R98). -/
def alarmEnd (s : State) (kind : AlarmKind) (scope : Scope) : State :=
  s.withAlarms (s.alarms.finish s.houseTime kind scope)

/-- Report a condition that stood as `before` says and stands as `after` says: its start or its end, where it changed
(R98). -/
def alarmChange (s : State) (kind : AlarmKind) (scope : Scope) (before after : Bool) : State :=
  if before == after then s else if after then alarmStart s kind scope else alarmEnd s kind scope

/-- Write a feed record and report the changes of its four conditions (R83, R98). -/
def setFeed (s : State) (i : ScreenId) (f : FeedId) (new : Feed) : State :=
  let old := s.feed i f
  let s := s.modFeed i f fun _ => new
  let s := alarmChange s .dead (.feed i f) old.dead new.dead
  let s := alarmChange s .hot (.feed i f) old.hot new.hot
  let s := alarmChange s .overLevel (.feed i f) old.overLevel new.overLevel
  alarmChange s .clip (.feed i f) old.clip new.clip

/-- The POOL_SHORT condition of a screen: the pool's cause or the renderer's shortage (R27, R98). -/
def poolShortStands (c : Screen) : Bool := c.equaliser.poolShort || c.renderer.filter == .short

/-- Change a screen and report a start or end of its POOL_SHORT condition (R98). -/
def modPoolShort (s : State) (i : ScreenId) (f : Screen → Screen) : State :=
  let before := poolShortStands (s.screen i)
  let s := s.modScreen i f
  alarmChange s .poolShort (.screen i) before (poolShortStands (s.screen i))

/-- Change a screen's governor and report a start or end of GOVERNING, which stands while the ceiling is below 0
(R97). -/
def setGovernor (s : State) (i : ScreenId) (g : Governor) : State :=
  let before := decide ((s.screen i).governor.ceiling < 0)
  alarmChange (s.modGovernor i fun _ => g) .governing (.screen i) before (decide (g.ceiling < 0))

/-- Whether any record of the store holds a fault mark: the STORE_FAULT condition (R187). -/
def storeFaultStands (s : State) : Bool := (Tab.list s.store.faults).any id

/-- Set or clear a record's fault mark and report STORE_FAULT (R187). -/
def setFaultMark (s : State) (r : RecordId) (on : Bool) : State :=
  let before := storeFaultStands s
  let s := s.modStore fun t => { t with faults := Tab.set t.faults r on }
  alarmChange s .storeFault .device before (storeFaultStands s)

/-! ### Lamps and attention (R103, R184) -/

/-- The screen an alarm's scope lies in, for screen and feed scope. -/
def Scope.screen? : Scope → Option ScreenId
  | .screen i => some i
  | .feed i _ => some i
  | .device => none
  | .station _ => none

/-- The lamp demand of a screen (R103). -/
def lampDemand (s : State) (i : ScreenId) : Bool :=
  s.alarms.records.any fun r => r.scope.screen? == some i && r.state == .raised

/-- The port covers a record of this scope (R103). -/
def coversScope (s : State) (p : PortId) (scope : Scope) : Bool :=
  match scope.screen? with
  | none => true
  | some i => covers s p i

/-- The alarm attention of a port (R103). -/
def alarmAttention (s : State) (p : PortId) : Bool :=
  s.alarms.records.any fun r => coversScope s p r.scope && r.state != .held

/-- The port owns a DONE completion entry (R184). -/
def completionAttention (s : State) (p : PortId) : Bool :=
  s.completions.entries.any fun e => e.owner == p && e.done.isSome

/-- Some screen of the port's mask has an unread format change (R184). -/
def noticeAttention (s : State) (p : PortId) : Bool :=
  screenIds.any fun i => covers s p i && (s.screen i).lane.notice.count != .zero

/-- The ATN output of a port (R184). -/
def attention (s : State) (p : PortId) : Bool :=
  completionAttention s p || alarmAttention s p || noticeAttention s p

/-- The status byte of a port that shows a phase (12.2). -/
def statusByte (s : State) (p : PortId) (phase : Phase) : Byte :=
  BitVec.ofNat 8 (phaseCode phase * 64 + (if phase == .execute then 0 else 32) + (if phase == .result then 16 else 0)
    + (if attention s p then 8 else 0))

/-! ### Relay drives (R146) -/

/-- The line is active (R146). -/
def lineActive (s : State) (l : LineId) : Bool :=
  let r := s.line l
  r.flag || decide (0 < r.pulse) ||
    (match r.role with
    | .plain => false
    | .alarmLamp i => lampDemand s i
    | .evac => s.safety.asserted)

/-- The line's relay is energised (R146). -/
def relayEnergised (s : State) (l : LineId) : Bool := lineActive s l != (s.line l).inverted

end Sys2Proof.Machine
end

