-- ==== Sys2Proof/Machine/Signal.lean ====
section
/-!
DEFINITION. The arithmetic of the signal path (spec/03): the gain table, the render, delay, level, equaliser and output
stages of one sample, meters, thresholds and reported levels, and the progress of a fade.
-/

namespace Sys2Proof.Machine

/-! ### The gain table (R41, R42) -/

/-- `g` is at most the real 2^20 × 10^(level/200) plus one half: (2g − 1)^200 ≤ (2^21)^200 × 10^level, in whole numbers. -/
def gainReaches (level : Int) (g : Nat) : Bool :=
  g == 0 || decide ((2 * g - 1) ^ 200 * 10 ^ (-level).toNat ≤ (2 ^ 21) ^ 200 * 10 ^ level.toNat)

/-- The greatest number below `acc + 2^bits`, reached from `acc` bit by bit, that satisfies a property which holds up to
some number and not above it. -/
def greatest (holds : Nat → Bool) : Nat → Nat → Nat
  | 0, acc => acc
  | bits + 1, acc => greatest holds bits (if holds (acc + 2 ^ bits) then acc + 2 ^ bits else acc)

/-- 1,048,576 × 10^(level/200), rounded half up (R41). -/
def gainEntry (level : Int) : Nat := greatest (gainReaches level) 23 0

/-- The gain of a computed level (R42): G(+120) above +120, 0 at −960 and below. -/
def gain (level : Int) : Nat := if level ≤ -960 then 0 else gainEntry (min level 120)

/-! ### Rounding and saturation (00_scope, 3.3) -/

/-- The nearer end of the sample range for a value outside it. -/
def saturate (v : Int) : Int := clamp (-8388608) 8388607 v

/-- Divide by 2^k and round half up. -/
def roundHalfUp (k : Nat) (a : Int) : Int := (a + 2 ^ (k - 1)) / 2 ^ k

/-- The sample that holds a saturated value. -/
def toSample (v : Int) : Sample := BitVec.ofInt 24 v

/-! ### Sections (R47) -/

/-- One sample through a section: the section with its state moved on, its output, and whether it saturated. -/
def Biquad.run (q : Biquad) (x : Int) : Biquad × Int × Bool :=
  let sum := q.coef.b0.toInt * x + q.coef.b1.toInt * q.x1.toInt + q.coef.b2.toInt * q.x2.toInt
    - q.coef.a1.toInt * q.y1.toInt - q.coef.a2.toInt * q.y2.toInt
  let raw := roundHalfUp 22 sum
  let y := saturate raw
  ({ q with x2 := q.x1, x1 := toSample x, y2 := q.y1, y1 := toSample y }, y, y != raw)

/-- One sample through a chain of slots: the slots after it, the output, and the clip events (R48). -/
def runChain (slots : Vector Biquad 384) : List SlotId → Int → Vector Biquad 384 × Int × Nat
  | [], x => (slots, x, 0)
  | k :: rest, x =>
    let (q, y, clip) := (Tab.get slots k).run x
    let (slots, out, clips) := runChain (Tab.set slots k q) rest y
    (slots, out, clips + clip.toNat)

/-! ### Render stage (R21, R36, R43) -/

/-- The exact sum of terms whose channels `read` gives, their levels raised by `adjust` (R43). -/
def termSum (read : ChannelId → Int) (adjust : Int) (terms : List Term) : Int :=
  terms.foldl (fun a t =>
    let product := read t.channel * (gain (t.level + adjust) : Int)
    if t.negative then a - product else a + product) 0

/-- The channels as a row reads them: C1 and C2 filtered on a flagged row while the surround filter acts (R24). -/
def rowReads (channels : ChannelId → Int) (filtered : Option (Int × Int)) (row : Row) (c : ChannelId) : Int :=
  match filtered with
  | some (f1, f2) => if row.surround && c == 0 then f1 else if row.surround && c == 1 then f2 else channels c
  | none => channels c

/-- The cover terms' exact sum: a copy of the dead feed's terms, 30 level units down (R35). -/
def coverSum (channels : ChannelId → Int) (filtered : Option (Int × Int)) (rows : RowSet) (dead : Option FeedId) : Int :=
  match dead with
  | none => 0
  | some f =>
    let row := Tab.get rows f
    termSum (rowReads channels filtered row) (-30) row.terms

/-- The render output of a feed and whether it saturated: own and steady cover terms in one sum (R43); joining and leaving
cover sums rounded apart and ramped by the sample index (R36). -/
def renderFeed (channels : ChannelId → Int) (filtered : Option (Int × Int)) (rows : RowSet) (cover : Cover)
    (f : FeedId) (n : Nat) : Int × Bool :=
  let row := Tab.get rows f
  let own := termSum (rowReads channels filtered row) 0 row.terms + coverSum channels filtered rows cover.steady
  let joining := (roundHalfUp 20 (coverSum channels filtered rows cover.joining) * n).tdiv 480
  let leaving := (roundHalfUp 20 (coverSum channels filtered rows cover.leaving) * (480 - n)).tdiv 480
  let raw := roundHalfUp 20 own + joining + leaving
  (saturate raw, saturate raw != raw)

/-- Whether a row has a term that reads a filtered channel: `c1` for the first, otherwise the second (R24, R25). -/
def Row.readsFiltered (row : Row) (c1 : Bool) : Bool :=
  row.surround && row.terms.any fun t => t.channel == (if c1 then 0 else 1)

/-- Whether a feed reads a filtered channel through its own or its cover terms (R25). -/
def feedReadsFiltered (rows : RowSet) (cover : Cover) (f : FeedId) (c1 : Bool) : Bool :=
  ([some f, cover.steady, cover.joining, cover.leaving].filterMap id).any fun g => (Tab.get rows g).readsFiltered c1

/-! ### Delay, level and output stages (R44, R46, R49, R50) -/

/-- The total delay of a path: alignment delay, plus the surround delay on a flagged row in MATRIX, at most 3,600 (R44). -/
def pathDelay (config : Configuration) (f : FeedId) (alignment : Nat) : Nat :=
  let surround := match config.rows with
    | some rows => if (Tab.get rows f).surround then config.surroundDelay.getD 0 else 0
    | none => 0
  min 3600 (alignment + surround)

/-- The render output of `delay` samples before; `r` is the current one, and a sample before the first is 0 (R44). -/
def delayRead (memory : List Sample) (r : Int) (delay : Nat) : Int :=
  match delay with
  | 0 => r
  | d + 1 => (memory.getD d 0#24).toInt

/-- The feed level of a path (R46). -/
def feedLevel (l : LevelInputs) (trim : Int) (hot : Bool) : Int :=
  min l.fader l.ceiling + l.offset + trim + (if hot then -60 else 0)

/-- The level output and whether it saturated (R46). -/
def levelStage (level x : Int) : Int × Bool :=
  let raw := roundHalfUp 20 (x * (gain level : Int))
  (saturate raw, saturate raw != raw)

/-- The factor of a gate at sample index n (R50). -/
def gateFactor (g : Gate) (n : Nat) : Nat :=
  match g with
  | .opened => 480
  | .closing => 480 - n
  | .closed => 0
  | .opening => n

/-- The factor of the renderer's ramp state (R50). -/
def rampFactor (r : RampState) (n : Nat) : Nat :=
  match r with
  | .steady => 480
  | .rampOut => 480 - n
  | .rampIn => n

/-- The factor of a preset cut, when one acts (R50, R70). -/
def cutFactor (w : Switch) (n : Nat) : List Nat :=
  match w with
  | .cutOut _ _ => [480 - n]
  | .cutIn _ => [n]
  | _ => []

/-- The factors that act on a feed (R50). -/
def outputFactors (c : Screen) (dead : Gate) (n : Nat) : List Nat :=
  [gateFactor c.path.screenGate n, gateFactor c.path.evacuationGate n, gateFactor c.path.calibrationGate n,
    gateFactor dead n, rampFactor c.renderer.ramp n] ++ cutFactor c.equaliser.switch n

/-- The output of the output stage, without and with a crossfade (R50). -/
def outputStage (factors : List Nat) (n : Nat) (y : Int) (yNew : Option Int) : Int :=
  let product : Int := (factors.foldl (· * ·) 1 : Nat)
  match yNew with
  | none => (y * product).tdiv (480 ^ factors.length)
  | some y' => ((y * (480 - n) + y' * n) * product).tdiv (480 ^ (factors.length + 1))

/-! ### Meters, thresholds, reported levels (R54 to R56) -/

/-- The block meter's gathering of one output sample (R54). -/
def FeedPath.meter (p : FeedPath) (out : Int) : FeedPath :=
  { p with
    peak := max p.peak out.natAbs
    energy := p.energy + ((out / 256) * (out / 256)).toNat
    output := toSample out }

/-- The clip count holds at 65,535 (R53). -/
def FeedPath.countClips (p : FeedPath) (k : Nat) : FeedPath := { p with clips := min 65535 (p.clips + k) }

/-- The mean of a block's energy (R54). -/
def blockMean (energy : Nat) : Nat := energy / 480

/-- Tpk (R55). -/
def peakThreshold (t : Int) : Nat := 8 * gain t

/-- Tpw (R55). -/
def powerThreshold (t : Int) : Nat := gain t ^ 2 / 1024

/-- The largest T in −960..0 whose threshold a meter value reaches (R56). -/
def largestLevel (threshold : Int → Nat) (v : Nat) : Int :=
  (greatest (fun k => k ≤ 960 && threshold ((k : Int) - 960) ≤ v) 10 0 : Int) - 960

/-- The peak report (R56). -/
def peakReport (p : Nat) : Int := largestLevel peakThreshold p

/-- The power report (R56). -/
def powerReport (m : Nat) : Int := if m == 0 then -960 else largestLevel powerThreshold m

/-! ### Fades (R57) -/

/-- The fader value `k` blocks into a fade, truncated toward zero (R57). -/
def fadeValue (start target : Int) (duration k : Nat) : Int := start + ((target - start) * k).tdiv duration

/-- The fader and its move at the boundary that begins the next block (R57). -/
def faderNext (value : Int) (move : FaderMove) : Int × FaderMove :=
  match move with
  | .hold => (value, .hold)
  | .setNext v => (v, .hold)
  | .fade a b d k => if d ≤ k + 1 then (b, .hold) else (fadeValue a b d (k + 1), .fade a b d (k + 1))

/-- The move of a fade or setting taken in the block being rendered: a duration of 0 sets the next block's value, and a
running fade ends (R57). -/
def takeFade (value target : Int) (duration : Nat) : FaderMove :=
  if duration == 0 then .setNext target else .fade value target duration 0

/-! ### The tone (R111, R112) -/

/-- The level of a step 1 to 10 (R111). -/
def stepLevel (step : Nat) : Int := -660 + 60 * step

/-- The amplitude of the tone at a level (R112). -/
def toneAmplitude (level : Int) : Nat := min (8 * gain level) 8388607

/-- The tone sample at block index n (R112). -/
def toneSample (level : Int) (n : Nat) : Int :=
  if n / 24 % 2 == 0 then (toneAmplitude level : Int) else -(toneAmplitude level : Int)

end Sys2Proof.Machine
end

