-- ==== Sys2Proof/Machine/Lane.lean ====
section
/-!
DEFINITION. The lane receivers and the non-sync receiver (spec/01): descriptors and their checks, the stream states, show
position and jumps, offset and mask, format changes and the notice, stream loss; the rows WORD_FRAME_ARRIVAL,
LANE_ABSENCE_TIMEOUT and NON_SYNC_FRAME_ARRIVAL.
-/

namespace Sys2Proof.Machine

/-! ### Descriptors (R3, 12.1) -/

/-- The fields of a well-formed descriptor. -/
structure Descriptor where
  code : Nat
  sequence : Nat
  position : Nat
  offset : Int
  mask : BitVec 14
deriving DecidableEq, Repr

/-- Six consecutive slot-14 words, oldest first, read as a descriptor: none where they are not well formed or a word is
missing (R3, 12.1). -/
def descriptorOf (words : List (Option Word)) : Option Descriptor :=
  match words with
  | [some w0, some w1, some w2, some w3, some w4, some w5] =>
    if w0 == 0xC3A51E#24 && w5 == w0 + w1 + w2 + w3 + w4 then
      some ⟨(w1.extractLsb' 20 4).toNat, (w1.extractLsb' 0 8).toNat, w2.toNat, w3.toInt, w4.extractLsb' 0 14⟩
    else none
  | _ => none

/-- The descriptor in the receiver's last six words. -/
def Lane.window (l : Lane) : Option Descriptor := descriptorOf l.words.reverse

/-- A known format code, 0 to 6 (01, 1.2). -/
def knownFormat (code : Nat) : Option FormatCode := indexed 7 code

/-- The position after a position (R11). -/
def nextPosition (p : Nat) : Nat := (p + 1) % 2 ^ 24

/-- The offset that a descriptor carries, clamped (R12). -/
def clampOffset (v : Int) : Int := clamp (-200) 0 v

/-- Whether the stream is locked: LOCKED or HOLDOVER (01, 1.3). -/
def Lane.isLocked (l : Lane) : Bool := l.stream == .locked || l.stream == .holdover

/-- The format that the block after the one being rendered has, so far as changes were taken (R14, R29). -/
def Lane.formatAhead (l : Lane) : FormatCode := l.rendering.change.getD l.format

/-! ### The format notice (R16) -/

/-- Record a change in the notice (R16). -/
def Notice.record (n : Notice) (c : FormatChange) : Notice :=
  match n.count with
  | .zero => ⟨.one, some c, some c, n.more⟩
  | .one => { n with count := .two, latest := some c }
  | .two => { n with count := .more, latest := some c, more := true }
  | .more => { n with count := .more, latest := some c, more := true }

/-! ### Format rules in a locked stream (R14, R15) -/

/-- What an accepted descriptor does to the format state: the candidate, the format of a change taken, whether
FORMAT_UNKNOWN stands. -/
structure FormatVerdict where
  candidate : Option FormatCode
  change : Option FormatCode
  unknown : Bool
deriving DecidableEq, Repr

/-- The format rules of an accepted descriptor against the current format and the candidate (R14, R15). -/
def judgeFormat (current : FormatCode) (candidate : Option FormatCode) (code : Nat) : FormatVerdict :=
  match knownFormat code with
  | none => ⟨none, none, true⟩
  | some c =>
    if c == current then ⟨none, none, false⟩
    else if candidate == some c then ⟨none, some c, false⟩
    else ⟨some c, none, false⟩

/-! ### Lane-scope conditions (R10, R15) -/

/-- Replace a lane and report the changes of its LOST and FORMAT_UNKNOWN conditions; where one entry into LOCKED or one loss changes
both, LOST is reported first (R7, R10, R15 and R98 give no order; DESIGN CHOICE, log 21). -/
def setLane (s : State) (i : ScreenId) (new : Lane) : State :=
  let old := (s.screen i).lane
  let s := s.modLane i fun _ => new
  let s := alarmChange s .lost (.screen i) old.lost new.lost
  alarmChange s .formatUnknown (.screen i) old.formatUnknown new.formatUnknown

/-! ### Entry into LOCKED (R7) -/

/-- The lane after the confirming descriptor.  Its first aligned boundary falls 475 sample periods after this one, 480
after the arrival of word 0 (R2).  A change taken from an earlier stream whose block of loss still renders does not outlive a
known code, which is the current format from this instant on (R7, R31).  The format held before, against which the notice is
kept, is then the one from before that change (DESIGN CHOICE, log 21). -/
def Lane.lock (l : Lane) (d : Descriptor) : Lane :=
  let offset := clampOffset d.offset
  let format := (knownFormat d.code).getD l.format
  { l with
    stream := .locked
    missCount := 0
    expected := some d.sequence
    position := some d.position
    format := format
    formatCandidate := none
    heldOffset := offset
    heldMask := d.mask
    formatUnknown := (knownFormat d.code).isNone
    lost := false
    notice := if format == l.format then l.notice else l.notice.record ⟨l.format, format, d.position⟩
    candidate := none
    alignIn := some 475
    rendering := if (knownFormat d.code).isSome then { l.rendering with change := none } else l.rendering
    receiving := ⟨some (.streamLocked d.position), offset, d.mask, none⟩ }

/-! ### Stream loss (R10) -/

/-- The lane after a stream loss that takes it to `next`; `position` is that of the block of loss.  The block being received
becomes the block of loss, with the held offset and mask; at an absence it is the block in reception at the recognition.  An
absence before the first aligned boundary keeps that boundary, and the block of loss begins there.  The held channel-valid mask
is kept, so that READ SCREEN still gives the last one outside the locked stream (R17), which R4 and R10 leave open (DESIGN
CHOICE, log 21). -/
def Lane.lose (l : Lane) (next : StreamState) (position : Nat) : Lane :=
  { l with
    stream := next
    missCount := 0
    expected := none
    position := none
    formatCandidate := none
    formatUnknown := false
    lost := true
    candidate := none
    receiving := ⟨some (.streamLost position), l.heldOffset, l.heldMask, l.receiving.change⟩ }

/-! ### Judgement in LOCKED and HOLDOVER (R8, R9) -/

/-- An accepted descriptor in a block whose expected sequence is `e` (R8, R9, R11 to R15). -/
def Lane.accept (l : Lane) (e : Nat) (d : Descriptor) : Lane :=
  let previous := l.position.getD 0
  let offset := clampOffset d.offset
  let v := judgeFormat l.formatAhead l.formatCandidate d.code
  { l with
    stream := .locked
    missCount := 0
    expected := some e
    position := some d.position
    heldOffset := offset
    heldMask := d.mask
    formatCandidate := v.candidate
    formatUnknown := v.unknown
    notice := match v.change with
      | some c => l.notice.record ⟨l.formatAhead, c, d.position⟩
      | none => l.notice
    receiving :=
      ⟨some (if d.position == nextPosition previous then .normal d.position else .jump previous d.position),
        offset, d.mask, v.change⟩ }

/-- A bad descriptor in a block whose expected sequence is `e` (R8, R9). -/
def Lane.miss (l : Lane) (e nMiss : Nat) : Lane :=
  let position := nextPosition (l.position.getD 0)
  if nMiss ≤ l.missCount + 1 then l.lose .search position
  else
    { l with
      stream := .holdover
      missCount := l.missCount + 1
      expected := some e
      position := some position
      receiving := ⟨some (.normal position), l.heldOffset, l.heldMask, none⟩ }

/-- The judgement of the words at positions 0 to 5 of an aligned block (R3, R8, R9).  The expected sequence of the block takes its
place here, with word 5, so that READ SCREEN gives that of the block before during positions 0 to 4: R3 does not say at which
instant of a block it advances (DESIGN CHOICE, log 21). -/
def Lane.judge (l : Lane) (nMiss : Nat) : Lane :=
  let e := (l.expected.getD 0 + 1) % 256
  match l.window with
  | some d => if d.sequence == e then l.accept e d else l.miss e nMiss
  | none => l.miss e nMiss

/-! ### SEARCH and VERIFY (R5, R6) -/

/-- The first well-formed window becomes the candidate (R5). -/
def Lane.search (l : Lane) : Lane :=
  match l.window with
  | some d => { l with stream := .verify, candidate := some ⟨d.sequence, d.code, 5⟩ }
  | none => l

/-- The decision on the window 480 positions after the candidate (R6). -/
def Lane.verify (l : Lane) (c : Candidate) : Lane :=
  match l.window with
  | some d =>
    if d.sequence == (c.sequence + 1) % 256 && d.code == c.code then l.lock d
    else { l with candidate := some ⟨d.sequence, d.code, 5⟩ }
  | none => { l with stream := .search, candidate := none }

/-- What the receiver does once the slot-14 word of a position is known, arrived or missing: `index` is the sample index of
the screen, the position in an aligned block (R5, R6, R8, R9). -/
def Lane.examine (l : Lane) (index nMiss : Nat) : Lane :=
  match l.stream with
  | .absent => l
  | .search => l.search
  | .verify =>
    match l.candidate with
    | some c => if c.age == 485 then l.verify c else l
    | none => { l with stream := .search }
  | .locked | .holdover => if l.alignIn.isNone && index == 5 then l.judge nMiss else l

/-! ### Rows -/

/-- The fourteen channel samples of a word-frame (R1). -/
def frameOf (words : List Word) : Frame := Tab.build fun c => words.getD c.val 0#24

/-- The lane with a frame's slot-14 word taken in; in ABSENT the frame moves the receiver to SEARCH and is the first one
examined there (R1, R4). -/
def Lane.take (l : Lane) (words : List Word) : Lane :=
  let earlier := if l.stream == .absent then [] else l.words.take 5
  { l with
    stream := if l.stream == .absent then .search else l.stream
    arrived := some (frameOf words)
    silence := 0
    words := some (words.getD 14 0#24) :: earlier }

/-- A word-frame arrives on a lane; a second frame within one sample period is no frame of the lane, nor is one of other than
sixteen words (R1, R4 to R9; logs 4, 16). -/
def wordFrameArrival (s : State) (i : ScreenId) (words : List Word) : State :=
  let c := s.screen i
  if c.lane.arrived.isSome || words.length != 16 then s
  else setLane s i ((c.lane.take words).examine c.path.index c.settings.nMiss)

/-- WORD_FRAME_ARRIVAL (R1, R3 to R9). -/
def execWordFrameArrival (i : ScreenId) (words : List Word) (s : State) : Host.Outcome State Fault Refusal :=
  .next (whenRunning s fun s => wordFrameArrival s i words)

/-- The position that a report gives its block (R11). -/
def Report.position : Report → Nat
  | .normal p => p
  | .jump _ p => p
  | .streamLocked p => p
  | .streamLost p => p

/-- The position of a block of loss that an absence causes: that of the block being rendered plus 1 (R10).  Where the frames
cease between a lock and its first aligned boundary, the confirming block itself is lost: there is no block before it, R10 gives no
position there, and the model takes the position that the confirming descriptor gave (DESIGN CHOICE, log 21). -/
def Lane.absencePosition (l : Lane) : Nat :=
  match l.alignIn, l.rendering.report with
  | none, some r => nextPosition r.position
  | _, _ => l.position.getD 0

/-- Entry into ABSENT from another state; the block of loss is the one in reception at the recognition (R4, R10; log 21).  An entry
from SEARCH or VERIFY leaves the block of loss of an earlier miss-count loss, where that is still to be rendered, with its offset,
mask and position: R4 presents an offset of 0 and zero channels on entry, R10 delivers that block, and the model follows R10
(DESIGN CHOICE, log 21). -/
def Lane.goAbsent (l : Lane) : Lane :=
  if l.stream == .absent then l
  else if l.isLocked then { l.lose .absent l.absencePosition with words := [] }
  else { l with stream := .absent, missCount := 0, candidate := none, position := none, words := [] }

/-- LANE_ABSENCE_TIMEOUT: 48 sample periods have passed without a word-frame (R4). -/
def execLaneAbsenceTimeout (i : ScreenId) (s : State) : Host.Outcome State Fault Refusal :=
  .next (whenRunning s fun s =>
    let l := (s.screen i).lane
    if 48 ≤ l.silence then setLane s i l.goAbsent else s)

/-- NON_SYNC_FRAME_ARRIVAL (R18); a second frame within one sample period replaces the first (log 21). -/
def execNonSyncFrameArrival (left right : Word) (s : State) : Host.Outcome State Fault Refusal :=
  .next (whenRunning s fun s => { s with nonSync := { s.nonSync with arrived := some (left, right) } })

/-! ### The sample period on a lane (R1) -/

/-- A sample period ends on a lane: where no frame came the slot-14 word of the position is missing and every channel is
0; the position, the candidate's age and the counts move on (R1, R2, R4).  The missing word has its place in the window of six
words in SEARCH too, which it makes ill-formed, so that a gap of fewer than 48 periods breaks R5's run of words; R5 speaks of the
words that arrive and leaves such a gap open (DESIGN CHOICE, log 21). -/
def Lane.tick (l : Lane) (index nMiss : Nat) : Lane :=
  let l := match l.arrived with
    | some _ => l
    | none => Lane.examine { l with words := none :: l.words.take 5, silence := l.silence + 1 } index nMiss
  { l with
    hold := (l.arrived.getD (Tab.all 0#24) :: l.hold).take 480
    arrived := none
    candidate := l.candidate.map fun c => { c with age := c.age + 1 }
    alignIn := l.alignIn.map fun k => k - 1 }

/-- A sample period ends on the non-sync lane (R18). -/
def NonSync.tick (n : NonSync) : NonSync :=
  ⟨none, (n.arrived.getD (0#24, 0#24) :: n.hold).take 480⟩

/-! ### The block boundary on a lane (R2, R11, R14) -/

/-- A block boundary of the screen on its lane: a format change taken in the block just ended is current from now on; the
block received is the one that begins rendering, except that a free-running boundary between an entry into LOCKED and the
first aligned boundary leaves the confirming block in reception (R2, R10, R14).  Such a free-running block presents all channels
as zero, although the stream is LOCKED: no descriptor gives it a mask (DESIGN CHOICE, log 21). -/
def Lane.boundary (l : Lane) : Lane :=
  let l := { l with format := l.formatAhead }
  match l.alignIn with
  | some (_ + 1) => { l with rendering := .free }
  | _ => { l with rendering := l.receiving, receiving := .free, alignIn := none }

end Sys2Proof.Machine
end

