-- ==== Sys2Proof/Machine/Watch.lean ====
section
/-!
DEFINITION. Level watch (spec/05): the tests of a feed, the governor, the sense scanner; the rows SENSE_CONVERSION_SLOT,
SEGMENT_COMPLETION, CLEAR_FEED and ACK_ALARM.
-/

namespace Sys2Proof.Machine

/-! ### The rotation (R85) -/

/-- The line of a feed is enabled for the watch rotation (R85). -/
def lineEnabled (c : Screen) (f : FeedId) : Bool :=
  c.settings.senseFitted.getLsbD f.val && (Tab.get c.feeds f).calibration.isSome && c.control.state != .dark

/-- Lines of the screen that are not enabled are out of the rotation: the first reading after they join again is to be
discarded (R84, R85). -/
def syncRotation (s : State) (i : ScreenId) : State :=
  let c := s.screen i
  s.modFeeds i fun v => Tab.mapIdx (fun f r => if lineEnabled c f then r else { r with firstDue := true }) v

/-! ### The tests of one feed (R83, R88 to R94) -/

/-- Store the block's meters (R83). -/
def Feed.storeMeters (r : Feed) (peak mean clips : Nat) : Feed :=
  { r with
    lastPeak := peak
    lastMean := mean
    peakHold := max r.peakHold peak
    clipsSinceRead := min 65535 (r.clipsSinceRead + clips) }

/-- The expected sense of a block (R88). -/
def expectedSense (tcal : Int) (scal peak : Nat) : Nat := scal * peak / (8 * gain tcal)

/-- The dead test (R89). -/
def Feed.deadTest (r : Feed) (set : Settings) (peak expected : Nat) : Feed :=
  match r.dead, r.blockSense with
  | true, _ => r
  | false, none => r
  | false, some v =>
    if peakThreshold set.deadFloor ≤ peak ∧ v < expected / 4 then
      if set.deadBlocks ≤ r.deadCount + 1 then { r with dead := true, deadCount := 0 }
      else { r with deadCount := r.deadCount + 1 }
    else { r with deadCount := 0 }

/-- The hot test (R91). -/
def Feed.hotTest (r : Feed) (set : Settings) (expected : Nat) : Feed :=
  match r.blockSense with
  | none => r
  | some v =>
    let passes := decide (16 ≤ expected ∧ 2 * expected < v)
    if r.hot then
      if passes then { r with coolCount := 0 }
      else if set.hotBlocks ≤ r.coolCount + 1 then { r with hot := false, hotCount := 0, coolCount := 0 }
      else { r with coolCount := r.coolCount + 1 }
    else if passes then
      if set.hotBlocks ≤ r.hotCount + 1 then { r with hot := true, hotCount := 0, coolCount := 0 }
      else { r with hotCount := r.hotCount + 1 }
    else { r with hotCount := 0 }

/-- The over test (R92). -/
def Feed.overTest (r : Feed) (set : Settings) (peak : Nat) : Feed :=
  if r.overLevel then
    if peak < peakThreshold (set.overThreshold - 30) then
      if 100 ≤ r.underCount + 1 then { r with overLevel := false, overCount := 0, underCount := 0 }
      else { r with underCount := r.underCount + 1 }
    else { r with underCount := 0 }
  else if peakThreshold set.overThreshold ≤ peak then
    if set.overBlocks ≤ r.overCount + 1 then { r with overLevel := true, overCount := 0, underCount := 0 }
    else { r with overCount := r.overCount + 1 }
  else { r with overCount := 0 }

/-- The clip test (R93). -/
def Feed.clipTest (r : Feed) (clips : Nat) : Feed :=
  if 0 < clips then { r with clip := true, clipFreeCount := 0 }
  else if r.clip then
    if 100 ≤ r.clipFreeCount + 1 then { r with clip := false, clipFreeCount := 0 }
    else { r with clipFreeCount := r.clipFreeCount + 1 }
  else r

/-- HOT ends and the dead, hot and cool counts return to 0 (R88, R115). -/
def Feed.unwatch (r : Feed) : Feed := { r with hot := false, deadCount := 0, hotCount := 0, coolCount := 0 }

/-- The tests made on sense: for a sense-watched feed; held while the feed carries the tone; ended where the feed was
watched and is no longer (R88). -/
def Feed.senseTests (r : Feed) (set : Settings) (enabled : Bool) (peak : Nat) : Feed :=
  if r.toneInBlock then { r with watched := false }
  else
    match enabled, r.calibration with
    | true, some (tcal, scal) =>
      let expected := expectedSense tcal scal peak
      { (r.deadTest set peak expected).hotTest set expected with watched := true }
    | _, _ => if r.watched then { r.unwatch with watched := false } else r

/-- The evaluation of a feed for the block just ended, its screen in IDLE or SHOW (R83). -/
def Feed.evaluate (r : Feed) (set : Settings) (enabled : Bool) (peak mean clips : Nat) : Feed :=
  let r := { r.storeMeters peak mean clips with lastSense := r.blockSense }
  ((r.senseTests set enabled peak).overTest set peak).clipTest clips

/-- The evaluation of a feed whose screen is in DARK (R83, R94). -/
def Feed.evaluateDark (r : Feed) (peak mean clips : Nat) : Feed :=
  { r.storeMeters peak mean clips with
    hot := false
    overLevel := false
    clip := false
    deadCount := 0
    hotCount := 0
    coolCount := 0
    overCount := 0
    underCount := 0
    clipFreeCount := 0
    watched := false }

/-- A feed's record after the evaluation of the block just ended; what was gathered for the block starts afresh (R83). -/
def evaluatedFeed (c : Screen) (f : FeedId) : Feed :=
  let r := Tab.get c.feeds f
  let p := Tab.get c.path.feeds f
  let r := match c.control.state with
    | .dark => r.evaluateDark p.peak (blockMean p.energy) p.clips
    | .idle | .inShow => r.evaluate c.settings (lineEnabled c f) p.peak (blockMean p.energy) p.clips
  { r with blockSense := none, toneInBlock := false }

/-- Level watch evaluates the block that has just ended, feed by feed (R83). -/
def watchBoundary (s : State) (i : ScreenId) : State :=
  let c := s.screen i
  feedIds.foldl (fun s f => setFeed s i f (evaluatedFeed c f)) s

/-! ### The governor (R95, R96) -/

/-- The block power: the sum of the means of the feeds in the exposure mask (R95). -/
def blockPower (c : Screen) : Nat :=
  feedIds.foldl (fun a f =>
    if c.settings.exposureMask.getLsbD f.val then a + blockMean (Tab.get c.path.feeds f).energy else a) 0

/-- The ceiling after a segment completion with window sum W (R96). -/
def nextCeiling (limit : Int) (w : Nat) (ceiling : Int) : Int :=
  if 6000 * powerThreshold limit ≤ w then max (ceiling - 5) (-100)
  else if w < 6000 * powerThreshold (limit - 10) then min (ceiling + 5) 0
  else ceiling

/-- Add a block's power to the segment in progress; the 100th block completes it (R95, R96). -/
def Governor.addBlock (g : Governor) (limit : Int) (power : Nat) : Governor :=
  if g.blockCount + 1 < 100 then { g with blockCount := g.blockCount + 1, segmentSum := g.segmentSum + power }
  else
    let ring := Tab.set g.ring g.oldest (g.segmentSum + power)
    let w := (Tab.list ring).foldl (· + ·) 0
    { blockCount := 0
      segmentSum := 0
      ring := ring
      oldest := g.oldest + 1
      windowSum := w
      ceiling := nextCeiling limit w g.ceiling
      completed := min 60 (g.completed + 1) }

/-- The governor's step at a boundary of a screen in SHOW (R95). -/
def governorStep (s : State) (i : ScreenId) : State :=
  let c := s.screen i
  match c.control.state with
  | .inShow => setGovernor s i (c.governor.addBlock c.settings.exposureLimit (blockPower c))
  | .dark | .idle => s

/-- The segment in progress is completed by the block that has just ended (R95). -/
def segmentDue (s : State) (i : ScreenId) : Bool :=
  (s.control i).state == .inShow && 100 ≤ (s.screen i).governor.blockCount + 1

/-- SEGMENT_COMPLETION (R95, R96). -/
def execSegmentCompletion (i : ScreenId) (s : State) : Host.Outcome State Fault Refusal :=
  .next (atBoundary s i .segment (fun s => segmentDue s i) fun s => governorStep s i)

/-! ### The sense scanner (R84 to R87) -/

/-- The sense line of a feed (R84). -/
def senseLine (i : ScreenId) (f : FeedId) : SenseLine := ⟨16 * i.val + f.val, by omega⟩

/-- The feed of a sense line. -/
def lineFeed (n : SenseLine) : ScreenId × FeedId := (⟨n.val / 16, by omega⟩, ⟨n.val % 16, by omega⟩)

/-- The calibrating line: that of the feed under tone (R86, R113). -/
def calibratingLine (s : State) : Option SenseLine :=
  match s.calibration with
  | [] => none
  | r :: _ => r.tone.map fun t => senseLine r.screen t.feed

/-- The lines that a rotation slot may convert, ascending (R85, R86). -/
def rotationLines (s : State) : List SenseLine :=
  (List.finRange 64).filter fun n =>
    let (i, f) := lineFeed n
    lineEnabled (s.screen i) f && calibratingLine s != some n

/-- The line a rotation slot converts: the lowest above the pointer, or the lowest of all (R85). -/
def rotationLine (s : State) : Option SenseLine :=
  let lines := rotationLines s
  match s.scanner.pointer with
  | none => lines.head?
  | some p => match lines.find? fun n => p < n with
    | some n => some n
    | none => lines.head?

/-- A rotation slot's reading of a feed's line (R84, R87). -/
def Feed.rotationReading (r : Feed) (v : Nat) : Feed :=
  if r.firstDue then { r with latest := some v, firstDue := false }
  else { r with latest := some v, blockSense := some (max v (r.blockSense.getD 0)) }

/-- The calibration controller takes a reading of the calibrating line: those of the last five blocks of the step count
(R113). -/
def Tone.takeReading (t : Tone) (v : Nat) : Tone := if 6 ≤ t.block then { t with reading := max v t.reading } else t

/-- A conversion of the calibrating line (R86, R113).  It is not the first reading after the line joined the rotation, which is
still to come (R84; DESIGN CHOICE, log 23). -/
def convertCalibrating (s : State) (n : SenseLine) (v : Nat) : State :=
  let (i, f) := lineFeed n
  let s := s.modFeed i f fun r => { r with latest := some v }
  s.withCalibration (match s.calibration with
    | [] => []
    | r :: rest => { r with tone := r.tone.map fun t => t.takeReading v } :: rest)

/-- A conversion of a rotation slot (R85). -/
def convertRotation (s : State) (v : Nat) : State :=
  match rotationLine s with
  | none => s
  | some n =>
    let (i, f) := lineFeed n
    { s.modFeed i f fun r => r.rotationReading v with scanner := { s.scanner with pointer := some n } }

/-- The slot's number moves on, and house time with every 80th slot, 10 ms (R84; log 3). -/
def slotPassed (s : State) : State :=
  let n := s.scanner.slot + 1
  { s with scanner := { s.scanner with slot := n }, houseTime := if n % 80 == 0 then s.houseTime + 1 else s.houseTime }

/-- One conversion slot with its reading (R84 to R87). -/
def senseSlot (s : State) (v : Nat) : State :=
  slotPassed (match calibratingLine s with
    | some n => if s.scanner.slot % 2 == 0 then convertCalibrating s n v else convertRotation s v
    | none => convertRotation s v)

/-- SENSE_CONVERSION_SLOT (R84). -/
def execSenseConversionSlot (reading : BitVec 12) (s : State) : Host.Outcome State Fault Refusal :=
  .next (whenRunning s fun s => senseSlot s reading.toNat)

/-! ### CLEAR FEED (R90) -/

/-- The feed leaves DEAD and its dead count is 0 (R90). -/
def Feed.cleared (r : Feed) : Feed := { r with dead := false, deadCount := 0 }

/-- The renderer and the dead gate take the feed as DEAD at the boundary being made: it is DEAD, or it left DEAD by a VERIFIED
result of this boundary, which they take at the next (R35, R49, R90). -/
def Feed.deadHere (r : Feed) : Bool := r.dead || r.revived

/-- CLEAR FEED on a feed of the port's screen (R90). -/
def clearFeed (s : State) (p : PortId) (params : List Byte) : Answer :=
  match screenField params 0, feedField params 1 with
  | some i, some f =>
    let r := s.feed i f
    checked s [(!covers s p i, .denied)]
      (accept (setFeed s i f r.cleared) (flagByte r.dead ++ flagByte false))
  | _, _ => refuse s .badArgument

/-- CLEAR_FEED (R90). -/
def execClearFeed (p : PortId) (params : List Byte) (s : State) : Host.Outcome State Fault Refusal :=
  .next (runCommand s p 0x1B#8 params (· == 2) fun s => clearFeed s p params)

/-! ### ACK ALARM (R101) -/

/-- The scope that two scope bytes give a kind, where they fit its class (R198). -/
def scopeOf (kind : AlarmKind) (b1 b2 : Nat) : Option Scope :=
  match kind with
  | .overLevel | .clip | .dead | .hot =>
    match numbered 4 b1, numbered 16 b2 with
    | some i, some f => some (.feed i f)
    | _, _ => none
  | .lost | .formatUnknown | .poolShort | .governing =>
    if b2 == 0 then (numbered 4 b1).map Scope.screen else none
  | .stationDown | .stationFault => if b2 == 0 then (numbered 8 b1).map Scope.station else none
  | .loopCongested | .evacuation | .storeFault | .overflow => if b1 == 0 && b2 == 0 then some .device else none

/-- Acknowledge the records that `chosen` picks, and count those moved to HELD and those removed, each by its state when the
command is taken (R101; log 22). -/
def acknowledge (s : State) (chosen : AlarmRecord → Bool) : Answer :=
  let records := s.alarms.records.filter chosen
  let held := (records.filter fun r => r.state == .raised).length
  let removed := (records.filter fun r => r.state == .ended).length
  accept (s.withAlarms (s.alarms.acknowledge s.houseTime chosen)) (byte held ++ byte removed)

/-- ACK ALARM in its two forms (R101, R198). -/
def ackAlarm (s : State) (p : PortId) (params : List Byte) : Answer :=
  if params.length == 1 then
    if natField params 0 1 == 0 then acknowledge s fun r => coversScope s p r.scope else refuse s .badArgument
  else
    match alarmKindOfCode (natField params 0 1) with
    | none => refuse s .badArgument
    | some kind =>
      match scopeOf kind (natField params 1 1) (natField params 2 1) with
      | none => refuse s .badArgument
      | some scope => checked s [(!coversScope s p scope, .denied)] (acknowledge s fun r => r.isFor kind scope)

/-- ACK_ALARM (R101). -/
def execAckAlarm (p : PortId) (params : List Byte) (s : State) : Host.Outcome State Fault Refusal :=
  .next (runCommand s p 0x05#8 params (fun n => n == 1 || n == 3) fun s => ackAlarm s p params)

end Sys2Proof.Machine
end

