-- ==== Sys2Proof/Machine/Calibration.lean ====
section
/-!
DEFINITION. Calibration sweeps (spec/06): the queue, the steps of the tone feed, outcomes, abrupt ends; the rows CALIBRATE and
CALIBRATION_STEP_END.
-/

namespace Sys2Proof.Machine

/-- The mask of one feed. -/
def feedBit (f : FeedId) : BitVec 16 := BitVec.ofNat 16 (2 ^ f.val)

/-- The feeds of a mask, ascending (R110). -/
def maskFeeds (m : BitVec 16) : List FeedId := feedIds.filter fun f => m.getLsbD f.val

/-- The payload of a request's completion entry; the Tcal and Scal of the verified feeds follow their mask in feed order, with
no count (R116, R117; log 12). -/
def CalRequest.payload (r : CalRequest) (interrupted : Option FeedId) : List Byte :=
  numberByte r.screen ++ maskBytes r.mask
    ++ maskBytes (r.verified.foldl (fun m v => m ||| feedBit v.1) 0#16)
    ++ r.verified.flatMap (fun v => signedBytes 2 v.2.1 ++ bytesOf 2 v.2.2)
    ++ maskBytes r.overrange ++ maskBytes r.failed ++ maskBytes r.skipped ++ optional numberByte interrupted

/-- The sweep comes to the feeds of `left` in turn: those not sense-fitted are skipped, the first fitted one takes the tone
at step 1 (R110). -/
def CalRequest.comeTo (fitted : BitVec 16) : CalRequest → List FeedId → CalRequest
  | r, [] => { r with left := [], tone := none }
  | r, f :: rest =>
    if fitted.getLsbD f.val then { r with left := rest, tone := some ⟨f, 1, 1, 0⟩ }
    else CalRequest.comeTo fitted { r with skipped := r.skipped ||| feedBit f } rest

/-- Put the head, its sweep having come as far as it can, back at the head; a request with no feed left is complete and
leaves the queue (R116). -/
def settleHead (s : State) (r : CalRequest) (rest : List CalRequest) : State :=
  match r.tone with
  | some _ => s.withCalibration (r :: rest)
  | none => finishEntry (s.withCalibration rest) r.ticket .normal .ok (r.payload none)

/-- At a boundary of the screen a STARTING head of it starts; where it completes at once the next head of the same screen
starts at the same boundary (R109, R110).  `fuel` bounds the requests, at most 8. -/
def startHeads : Nat → State → ScreenId → State
  | 0, s, _ => s
  | fuel + 1, s, i =>
    match s.calibration with
    | [] => s
    | r :: rest =>
      if r.screen == i && r.tone.isNone then
        startHeads fuel (settleHead s (r.comeTo (s.screen i).settings.senseFitted r.left) rest) i
      else s

/-- What a step's measured value decides (R114). -/
inductive StepOutcome where
  | verified | overrange | again | failed
deriving DecidableEq, Repr

/-- R114. -/
def stepOutcome (reading step : Nat) : StepOutcome :=
  if 3968 < reading then .overrange
  else if 64 ≤ reading then .verified
  else if step < 10 then .again
  else .failed

/-- The feed record after a VERIFIED result; a feed that leaves DEAD by it is still DEAD to the renderer and the dead gate at
this boundary (R90, R115). -/
def Feed.verified (r : Feed) (tcal : Int) (scal : Nat) : Feed :=
  { r.cleared with calibration := some (tcal, scal), hot := false, hotCount := 0, coolCount := 0, revived := r.deadHere }

/-- The feed record after OVERRANGE or an equipment check failure (R115). -/
def Feed.unverified (r : Feed) : Feed := { r.unwatch with calibration := none }

/-- The step of the tone feed ends: S decides the outcome, which is written into the feed record and the request, and the
sweep goes on at the same boundary (R111, R114, R115). -/
def stepEnd (s : State) (r : CalRequest) (rest : List CalRequest) (t : Tone) : State :=
  let i := r.screen
  let f := t.feed
  let fitted := (s.screen i).settings.senseFitted
  match stepOutcome t.reading t.step with
  | .again => s.withCalibration ({ r with tone := some ⟨f, t.step + 1, 1, 0⟩ } :: rest)
  | .verified =>
    let tcal := stepLevel t.step
    let s := syncRotation (setFeed s i f ((s.feed i f).verified tcal t.reading)) i
    settleHead s ({ r with verified := r.verified ++ [(f, tcal, t.reading)] }.comeTo fitted r.left) rest
  | .overrange =>
    let s := syncRotation (setFeed s i f (s.feed i f).unverified) i
    settleHead s ({ r with overrange := r.overrange ||| feedBit f }.comeTo fitted r.left) rest
  | .failed =>
    let s := syncRotation (setFeed s i f (s.feed i f).unverified) i
    settleHead s ({ r with failed := r.failed ||| feedBit f }.comeTo fitted r.left) rest

/-- The sweep at a boundary of the screen under tone: the tenth block of a step ends it, any other moves to the next block
of the step; a request of the same screen that follows a complete one takes its first feed at once (R109, R111; log 5). -/
def sweepBoundary (s : State) (i : ScreenId) : State :=
  match s.calibration with
  | [] => s
  | r :: rest =>
    match r.tone with
    | none => s
    | some t =>
      if r.screen == i then
        if 10 ≤ t.block then startHeads 8 (stepEnd s r rest t) i
        else s.withCalibration ({ r with tone := some { t with block := t.block + 1 } } :: rest)
      else s

/-- A calibration request of the screen is running: the cause of its calibration gate (R49, R110). -/
def calibrationRuns (s : State) (i : ScreenId) : Bool :=
  match s.calibration with
  | [] => false
  | r :: _ => r.screen == i && r.tone.isSome

/-- End every request that `reached` picks abruptly, their entries DONE in queue order (R117). -/
def endRequests (s : State) (reached : CalRequest → Bool) (reason : Reason) : State :=
  let s' := (s.calibration.filter reached).foldl
    (fun s r => finishEntry s r.ticket .abrupt reason (r.payload (r.tone.map Tone.feed))) s
  s'.withCalibration (s.calibration.filter fun r => !reached r)

/-- The screen whose tone step the tenth block has just ended, if there is one (R111). -/
def stepEndScreen (s : State) : Option ScreenId :=
  match s.calibration with
  | [] => none
  | r :: _ => match r.tone with
    | some t => if 10 ≤ t.block then some r.screen else none
    | none => none

/-- CALIBRATION_STEP_END (R111).  Given as a step of its own, it reports the ends of DEAD and HOT that its outcome makes (R115)
before level watch reports on the block of that boundary; within BLOCK_BOUNDARY they are reported after level watch's.  R98 and
R115 give no order, which shows where the alarm table is full (DESIGN CHOICE, log 5). -/
def execCalibrationStepEnd (s : State) : Host.Outcome State Fault Refusal :=
  .next (match stepEndScreen s with
    | some i => atBoundary s i .calibration (fun _ => true) fun s => sweepBoundary s i
    | none => s)

/-- CALIBRATE (R108). -/
def calibrate (s : State) (p : PortId) (params : List Byte) : Answer :=
  let mask := BitVec.ofNat 16 (natField params 1 2)
  match screenField params 0 with
  | none => refuse s .badArgument
  | some i =>
    let c := s.control i
    checked s
      [(mask == 0#16, .badArgument), (!covers s p i, .denied), (s.safety.asserted || c.evacuationMute, .evacuation),
        (c.state != .idle, .wrongState), (!completionFree s, .busy)]
      (let t := drawTicket s
       let r : CalRequest := ⟨t, i, mask, maskFeeds mask, none, [], 0#16, 0#16, 0#16⟩
       ⟨.normal, .accepted, byte t,
        (takeEntry s p (.calibrate i mask)).withCalibration (s.calibration ++ [r])⟩)

/-- CALIBRATE (R108). -/
def execCalibrate (p : PortId) (params : List Byte) (s : State) : Host.Outcome State Fault Refusal :=
  .next (runCommand s p 0x1E#8 params (· == 3) fun s => calibrate s p params)

/-! ### Leaving IDLE (R119) -/

/-- The screen enters DARK from IDLE: its calibration requests end with WRONG_STATE, its lines leave the rotation (R85,
R119, R125). -/
def enterDark (s : State) (i : ScreenId) : State :=
  let s := endRequests s (fun r => r.screen == i) .wrongState
  syncRotation (s.modControl i fun c => { c with state := .dark, sleepHeld := false }) i

end Sys2Proof.Machine
end

