-- ==== Sys2Proof/Machine/Equalisation.lean ====
section
/-!
DEFINITION. The section pool and the equaliser (spec/04): allocation and release, the decision of an activation, crossfade and
cut, pending requests, trims, start-up chains; the rows CROSSFADE_END, CUT_EXCHANGE, CUT_END, SELECT_PRESET and SET_TRIM.
-/

namespace Sys2Proof.Machine

/-! ### Reports to cues (R143) -/

/-- Write a report as the outcome of the cue it names, where the cue has stayed taken since the taking that handed the
action (R143). -/
def reportCue (s : State) (ref : CueRef) (o : CueOutcome) : State :=
  s.modControl ref.screen fun c =>
    { c with cues := c.cues.modify ref.index fun q =>
        if q.taken && q.taking == ref.taking then { q with outcome := o } else q }

/-! ### Slots (R59, R60) -/

/-- A section as it stands at allocation: coefficients copied, state zero (R59). -/
def freshSection (c : Coefficients) : Biquad := ⟨c, 0#24, 0#24, 0#24, 0#24⟩

/-- Take slots for sections from the head of the free list, one after another (R60). -/
def allocate (pool : Pool) : List Coefficients → Pool × List SlotId
  | [] => (pool, [])
  | c :: rest =>
    match pool.free with
    | [] => (pool, [])
    | k :: free =>
      let (pool, ks) := allocate ⟨Tab.set pool.slots k (freshSection c), free⟩ rest
      (pool, k :: ks)

/-- Take the chains of feeds in order (R60). -/
def allocateChains (pool : Pool) : List (List Coefficients) → Pool × List (List SlotId)
  | [] => (pool, [])
  | sections :: rest =>
    let (pool, chain) := allocate pool sections
    let (pool, chains) := allocateChains pool rest
    (pool, chain :: chains)

/-- Append released slots to the tail of the free list, in the order given (R60). -/
def release (pool : Pool) (slots : List SlotId) : Pool := { pool with free := pool.free ++ slots }

/-- The slots of sixteen records, feed 1 first and in chain order (R60). -/
def recordSlots (r : Vector FeedRecord 16) : List SlotId := (Tab.list r).flatMap FeedRecord.chain

/-- The slots a surround filter holds, C1 before C2 (R26). -/
def filterSlots : SurroundFilter → List SlotId
  | .held c1 c2 => [c1, c2]
  | .notHeld => []
  | .short => []

/-- The slots that a screen holds: active chains, incoming chains, surround filter (R59). -/
def screenSlots (c : Screen) : List SlotId :=
  recordSlots c.equaliser.running ++ (c.equaliser.incoming.map recordSlots).getD [] ++ filterSlots c.renderer.filter

/-- The total sections of a preset (R63). -/
def totalSections (p : Preset) : Nat := ((Tab.list p).map fun e => e.sections.length).sum

/-- The claim of a switch (R61). -/
def Switch.claim : Switch → Nat
  | .cutOut _ n => n
  | _ => 0

/-- The claimed count (R61). -/
def claimedCount (s : State) : Nat := (screenIds.map fun i => (s.equaliser i).switch.claim).sum

/-- The available count: free minus claimed, never below 0 (R61). -/
def availableCount (s : State) : Nat := s.pool.free.length - claimedCount s

/-! ### Trims (R75, R76) -/

/-- The commissioned clamp of a trim applied to the path of a preset (R76). -/
def commissionedClamp (e : Equaliser) (n : PresetId) (f : FeedId) (trim : Int) : Int :=
  match e.commissioned with
  | some trims => if n == 0 then clamp (Tab.get trims f - 30) (Tab.get trims f + 30) trim else trim
  | none => trim

/-- The records that an activation copies from a preset of the bank, with the chains it was given (R69, R70, R76). -/
def presetRecords (e : Equaliser) (n : PresetId) (chains : List (List SlotId)) : Vector FeedRecord 16 :=
  Tab.build fun f =>
    let entry := Tab.get (Tab.get e.bank n) f
    ⟨chains.getD f.val [], commissionedClamp e n f entry.trim, entry.delay⟩

/-- The sections of a preset, feed by feed. -/
def presetSections (p : Preset) : List (List Coefficients) := (Tab.list p).map FeedEntry.sections

/-! ### The fate of a request (R67, R68, R73) -/

/-- The outcomes that a SELECT PRESET payload names, in the order of R67. -/
inductive ActivationOutcome where
  | crossfade | cut | failed | replaced | aborted
deriving DecidableEq, Repr

def ActivationOutcome.bytes : ActivationOutcome → List Byte
  | .crossfade => byte 0
  | .cut => byte 1
  | .failed => byte 2
  | .replaced => byte 3
  | .aborted => byte 4

/-- A request is ended in the pending place without having been decided (R67, R73). -/
def endPending (s : State) (r : Request) (o : ActivationOutcome) : State :=
  match r.origin with
  | .command t => finishEntry s t .abrupt .ok o.bytes
  | .cue _ => s
  | .openingReturn => s

/-- Put a request into the pending place; one that waits there is replaced (R66, R73). -/
def requestActivation (s : State) (i : ScreenId) (r : Request) : State :=
  let s := match (s.equaliser i).pending with
    | some old => endPending s old .replaced
    | none => s
  s.modEqualiser i fun e => { e with pending := some r }

/-- The pool reports its decision to the cue a request came from (R68). -/
def reportDecision (s : State) (r : Request) (o : CueOutcome) : State :=
  match r.origin with
  | .cue ref => reportCue s ref o
  | .command _ => s
  | .openingReturn => s

/-- The payload items of a decided request (R67). -/
def activationPayload (i : ScreenId) (n : PresetId) (o : ActivationOutcome) (total : Nat) : List Byte :=
  numberByte i ++ byte n.val ++ o.bytes ++ byte total

/-! ### Decision (R68 to R71) -/

/-- A crossfade starts: slots for the preset are taken, and the incoming records are made (R69). -/
def startCrossfade (s : State) (i : ScreenId) (r : Request) : State :=
  let e := s.equaliser i
  let (pool, chains) := allocateChains s.pool (presetSections (Tab.get e.bank r.preset))
  let s := { s with pool := pool }
  let s := modPoolShort s i fun c => { c with equaliser :=
    { c.equaliser with
      incoming := some (presetRecords e r.preset chains)
      switch := .crossfade r
      poolShort := false } }
  reportDecision s r .done

/-- A cut starts: its claim is entered (R70). -/
def startCut (s : State) (i : ScreenId) (r : Request) (need old : Nat) : State :=
  let s := modPoolShort s i fun c => { c with equaliser :=
    { c.equaliser with switch := .cutOut r (need - old), poolShort := false } }
  reportDecision s r .done

/-- An activation fails: nothing of the pool changes but its cause of POOL_SHORT, and the owner is told (R67, R71). -/
def failActivation (s : State) (i : ScreenId) (r : Request) (need available : Nat) : State :=
  let s := modPoolShort s i fun c => { c with equaliser := { c.equaliser with poolShort := true } }
  match r.origin with
  | .command t =>
    finishEntry s t .abrupt .poolShort (activationPayload i r.preset .failed need ++ bytesOf 2 available)
  | .cue ref => reportCue s ref .failedPool
  | .openingReturn => s

/-- Decide a request at a boundary of its screen (R68). -/
def decideActivation (s : State) (i : ScreenId) (r : Request) : State :=
  let e := s.equaliser i
  let need := totalSections (Tab.get e.bank r.preset)
  let old := (recordSlots e.running).length
  let available := availableCount s
  if need ≤ available then startCrossfade s i r
  else if need ≤ available + old then startCut s i r need old
  else failActivation s i r need available

/-- Look at the pending place: with no switch in progress its request is taken out and decided (R66). -/
def decidePending (s : State) (i : ScreenId) : State :=
  match (s.equaliser i).switch, (s.equaliser i).pending with
  | .none, some r => decideActivation (s.modEqualiser i fun e => { e with pending := none }) i r
  | _, _ => s

/-! ### The progress of a switch (R69, R70, R72) -/

/-- A switch has ended: the entry of its command is DONE, and a held SLEEP takes effect (R67, R72, R125).  Level watch evaluates
the block that ends there as DARK where the end of the switch is a step of its own, and as IDLE within BLOCK_BOUNDARY (DESIGN
CHOICE, log 5). -/
def switchEnded (s : State) (i : ScreenId) (r : Request) (o : ActivationOutcome) : State :=
  let total := (recordSlots (s.equaliser i).running).length
  let s := match r.origin with
    | .command t => finishEntry s t .normal .ok (activationPayload i r.preset o total)
    | .cue _ => s
    | .openingReturn => s
  if (s.control i).sleepHeld then enterDark s i else s

/-- The ending boundary of a crossfade (R69). -/
def endCrossfade (s : State) (i : ScreenId) (r : Request) : State :=
  let e := s.equaliser i
  let s := s.modPool fun p => release p (recordSlots e.running)
  let s := s.modEqualiser i fun e =>
    { e with running := e.incoming.getD e.running, incoming := none, active := r.preset, switch := .none }
  switchEnded s i r .crossfade

/-- A PRESET record that RECALL left for the exchange boundary is written to the bank, unless the show lock is set
(R65, R191). -/
def applyDeferred (lock : Bool) (e : Equaliser) : Equaliser :=
  match e.deferred with
  | none => e
  | some d =>
    if lock then { e with deferred := none }
    else
      { e with
        bank := Tab.set e.bank d.preset d.content
        commissioned := if d.preset == 0 then d.commissioned else e.commissioned
        deferred := none }

/-- The exchange boundary of a cut: the old slots are released, the new ones taken, and the preset's trims and delays are
those of the bank (R65, R70). -/
def exchangeCut (s : State) (i : ScreenId) (r : Request) : State :=
  let e := s.equaliser i
  let (pool, chains) := allocateChains (release s.pool (recordSlots e.running)) (presetSections (Tab.get e.bank r.preset))
  let s := { s with pool := pool }
  s.modEqualiser i fun e => applyDeferred (locked s i)
    { e with running := presetRecords e r.preset chains, active := r.preset, switch := .cutIn r }

/-- The ending boundary of a cut (R70). -/
def endCut (s : State) (i : ScreenId) (r : Request) : State :=
  switchEnded (s.modEqualiser i fun e => { e with switch := .none }) i r .cut

/-- The pool at a boundary of the screen: the progress of its switch, then the pending place (R66). -/
def poolBoundary (s : State) (i : ScreenId) : State :=
  match (s.equaliser i).switch with
  | .none => decidePending s i
  | .crossfade r => decidePending (endCrossfade s i r) i
  | .cutOut r _ => exchangeCut s i r
  | .cutIn r => decidePending (endCut s i r) i

/-- CROSSFADE_END (R69).  A held SLEEP takes effect before level watch evaluates the block that ends (R125; DESIGN CHOICE,
log 5). -/
def execCrossfadeEnd (i : ScreenId) (s : State) : Host.Outcome State Fault Refusal :=
  .next (atBoundary s i .switchProgress
    (fun s => match (s.equaliser i).switch with
      | .crossfade _ => true
      | _ => false)
    fun s => poolBoundary s i)

/-- CUT_EXCHANGE (R70). -/
def execCutExchange (i : ScreenId) (s : State) : Host.Outcome State Fault Refusal :=
  .next (atBoundary s i .switchProgress
    (fun s => match (s.equaliser i).switch with
      | .cutOut _ _ => true
      | _ => false)
    fun s => poolBoundary s i)

/-- CUT_END (R70).  A held SLEEP takes effect before level watch evaluates the block that ends (R125; DESIGN CHOICE, log 5). -/
def execCutEnd (i : ScreenId) (s : State) : Host.Outcome State Fault Refusal :=
  .next (atBoundary s i .switchProgress
    (fun s => match (s.equaliser i).switch with
      | .cutIn _ => true
      | _ => false)
    fun s => poolBoundary s i)

/-! ### Waking (R77) -/

/-- A section with its state values at zero (R77). -/
def Biquad.zeroed (q : Biquad) : Biquad := freshSection q.coef

/-- At the first boundary after WAKE the sections of the screen's active and incoming chains have their state zeroed
(R77). -/
def zeroChains (s : State) (i : ScreenId) : State :=
  let e := s.equaliser i
  if e.zeroDue then
    let slots := recordSlots e.running ++ (e.incoming.map recordSlots).getD []
    let s := s.modPool fun p => { p with slots := slots.foldl (fun v k => Tab.modify v k Biquad.zeroed) p.slots }
    s.modEqualiser i fun e => { e with zeroDue := false }
  else s

/-! ### Start-up (R78) -/

/-- The pool builds a screen's running records from its power-on preset (R78). -/
def startUpChains (s : State) (i : ScreenId) : State :=
  let e := s.equaliser i
  let n := (s.screen i).settings.powerOnPreset
  let sections := presetSections (Tab.get e.bank n)
  let fits := totalSections (Tab.get e.bank n) ≤ s.pool.free.length
  let (pool, chains) := if fits then allocateChains s.pool sections else (s.pool, [])
  let s := { s with pool := pool }
  modPoolShort s i fun c => { c with equaliser :=
    { c.equaliser with running := presetRecords e n chains, active := n, poolShort := !fits } }

/-! ### SELECT PRESET (R67) -/

/-- SELECT PRESET (R67). -/
def selectPreset (s : State) (p : PortId) (params : List Byte) : Answer :=
  match screenField params 0, indexed 4 (natField params 1 1) with
  | some i, some n =>
    checked s [(!covers s p i, .denied), (locked s i, .locked), (!completionFree s, .busy)]
      (let t := drawTicket s
       ⟨.normal, .accepted, byte t, requestActivation (takeEntry s p .selectPreset) i ⟨n, .command t⟩⟩)
  | _, _ => refuse s .badArgument

/-- SELECT_PRESET (R67). -/
def execSelectPreset (p : PortId) (params : List Byte) (s : State) : Host.Outcome State Fault Refusal :=
  .next (runCommand s p 0x18#8 params (· == 2) fun s => selectPreset s p params)

/-! ### SET TRIM (R75) -/

/-- The preset that a SET TRIM writes: the one being activated, or the active one (R75). -/
def trimTarget (e : Equaliser) : PresetId :=
  match e.switch with
  | .none => e.active
  | .crossfade r => r.preset
  | .cutOut r _ => r.preset
  | .cutIn r => r.preset

/-- The equaliser with a clamped trim in the bank and in the record through which the target preset's path runs (R75). -/
def Equaliser.setTrim (e : Equaliser) (f : FeedId) (trim : Int) : Equaliser :=
  let n := trimTarget e
  let e := { e with bank := Tab.modify e.bank n fun p => Tab.modify p f fun x => { x with trim := trim } }
  match e.switch with
  | .none => { e with running := Tab.modify e.running f fun r => { r with trim := trim } }
  | .cutIn _ => { e with running := Tab.modify e.running f fun r => { r with trim := trim } }
  | .crossfade _ => { e with incoming := e.incoming.map fun v => Tab.modify v f fun r => { r with trim := trim } }
  | .cutOut _ _ => e

/-- SET TRIM (R75, R76). -/
def setTrim (s : State) (p : PortId) (params : List Byte) : Answer :=
  match screenField params 0, feedField params 1 with
  | some i, some f =>
    let e := s.equaliser i
    let trim := commissionedClamp e (trimTarget e) f (clamp (-120) 60 (intField params 2 2))
    checked s [(!covers s p i, .denied), (locked s i, .locked)]
      (accept (s.modEqualiser i fun e => e.setTrim f trim)
        (numberByte i ++ numberByte f ++ byte (trimTarget e).val ++ signedBytes 1 trim))
  | _, _ => refuse s .badArgument

/-- SET_TRIM (R75). -/
def execSetTrim (p : PortId) (params : List Byte) (s : State) : Host.Outcome State Fault Refusal :=
  .next (runCommand s p 0x1A#8 params (· == 4) fun s => setTrim s p params)

end Sys2Proof.Machine
end

