-- ==== Sys2Proof/Machine/Renderer.lean ====
section
/-!
DEFINITION. The renderer at a block boundary (spec/02): the configuration due, the ramp states, the surround filter's request and
release, cover re-routes; the row SELECT_SOURCE.
-/

namespace Sys2Proof.Machine

/-! ### The configuration due (R29) -/

/-- The fallback source of a screen (R29). -/
def fallbackSource (c : Screen) : Source := if c.settings.fallbackNonsync then .nonsync else .mute

/-- The row set of a program format: none for code 0 (R29). -/
def programRows (table : RenderTable) (code : FormatCode) : Option RowSet :=
  match code with
  | 0 => none
  | 1 => some (Tab.get table 0)
  | 2 => some (Tab.get table 1)
  | 3 => some (Tab.get table 2)
  | 4 => some (Tab.get table 3)
  | 5 => some (Tab.get table 4)
  | 6 => some (Tab.get table 5)

/-- The configuration of an effective source, `code` being the program's format (R29). -/
def configurationOf (c : Screen) (source : Source) (code : FormatCode) : Configuration :=
  match source with
  | .program =>
    { source := .program
      format := .program code
      rows := programRows c.renderer.table code
      surroundDelay := if code == 2 then some c.settings.surroundDelay else none }
  | .nonsync => { source := .nonsync, format := .ns, rows := some (Tab.get c.renderer.table 6), surroundDelay := none }
  | .mute => .mute

/-- The configuration due for a block that is, or is not, a locked block (R29). -/
def dueConfiguration (c : Screen) (isLocked : Bool) (code : FormatCode) : Configuration :=
  match c.renderer.selected with
  | .program => configurationOf c (if isLocked then .program else fallbackSource c) code
  | .nonsync => configurationOf c .nonsync code
  | .mute => configurationOf c .mute code

/-- The configuration due for the next block, judged at the boundary where the current block begins (R29). -/
def dueNext (c : Screen) : Configuration := dueConfiguration c c.lane.isLocked c.lane.formatAhead

/-- The configuration due for a RAMP_IN block, judged at the boundary where it begins (R29). -/
def dueRampIn (c : Screen) : Configuration := dueConfiguration c c.lane.rendering.report.isSome c.lane.format

/-- The configuration renders MATRIX. -/
def Configuration.isMatrix (c : Configuration) : Bool := c.format == .program 2

/-! ### The surround filter (R25 to R27) -/

/-- The coefficients of both surround filter sections (R25). -/
def surroundCoefficients : Coefficients :=
  ⟨BitVec.ofInt 24 526210, BitVec.ofInt 24 1052420, BitVec.ofInt 24 526210, BitVec.ofInt 24 (-3267822),
    BitVec.ofInt 24 1178358⟩

/-- The renderer asks the pool for the two slots of the surround filter; both or neither, and a shortage where fewer than two
are available (R26, R27, R61). -/
def requestFilter (s : State) (i : ScreenId) : State :=
  let fits := 2 ≤ availableCount s
  let (pool, slots) := if fits then allocate s.pool [surroundCoefficients, surroundCoefficients] else (s.pool, [])
  let filter : SurroundFilter := match slots with
    | [c1, c2] => .held c1 c2
    | _ => .short
  modPoolShort { s with pool := pool } i fun c => { c with renderer := { c.renderer with filter := filter } }

/-- The renderer gives the filter back, C1 before C2, and a shortage ends (R26, R27). -/
def releaseFilter (s : State) (i : ScreenId) : State :=
  let s := s.modPool fun p => release p (filterSlots (s.screen i).renderer.filter)
  modPoolShort s i fun c => { c with renderer := { c.renderer with filter := .notHeld } }

/-- The surround filter where a RAMP_IN block begins (R26, R27). -/
def filterAtRampIn (s : State) (i : ScreenId) (due : Configuration) : State :=
  if due.isMatrix then
    match (s.screen i).renderer.filter with
    | .notHeld => requestFilter s i
    | .held _ _ => s
    | .short => s
  else releaseFilter s i

/-! ### Ramp states (R30) -/

/-- The kind of the block now beginning (R30). -/
def rampBoundary (s : State) (i : ScreenId) : State :=
  let c := s.screen i
  match c.renderer.ramp with
  | .rampOut =>
    let due := dueRampIn c
    filterAtRampIn (s.modRenderer i fun r => { r with current := due, ramp := .rampIn }) i due
  | .steady | .rampIn =>
    s.modRenderer i fun r => { r with ramp := if dueNext c == c.renderer.current then .steady else .rampOut }

/-! ### Cover re-routes (R35, R36) -/

/-- The dead feed whose terms a cover feed carries in the block now beginning (R35). -/
def rerouteTo (c : Screen) (cover : FeedId) : Option FeedId :=
  feedIds.find? fun f =>
    Tab.get c.settings.cover f == some cover && (Tab.get c.feeds f).deadHere && !(Tab.get c.feeds cover).deadHere

/-- The cover terms of the block now beginning: those that were in effect stay, join or leave (R36). -/
def Cover.next (v : Cover) (now : Option FeedId) : Cover :=
  let before := v.steady <|> v.joining
  if before == now then ⟨now, .none, .none⟩ else ⟨.none, now, before⟩

/-- The cover re-routes are judged afresh (R35). -/
def coverBoundary (s : State) (i : ScreenId) : State :=
  let c := s.screen i
  s.modRenderer i fun r => { r with covers := Tab.mapIdx (fun f v => v.next (rerouteTo c f)) r.covers }

/-- The renderer at a boundary of its screen (R30, R35). -/
def rendererBoundary (s : State) (i : ScreenId) : State := coverBoundary (rampBoundary s i) i

/-- The re-routes in effect for the block being rendered, by ascending dead feed (R39). -/
def reroutes (r : Renderer) : List (FeedId × FeedId) :=
  feedIds.flatMap fun f =>
    feedIds.filterMap fun c =>
      let v := Tab.get r.covers c
      if v.steady == some f || v.joining == some f then some (f, c) else none

/-! ### SELECT SOURCE (R28) -/

/-- SELECT SOURCE (R28). -/
def selectSource (s : State) (p : PortId) (params : List Byte) : Answer :=
  match screenField params 0, sourceOfCode (natField params 1 1) with
  | some i, some v =>
    checked s [(!covers s p i, .denied), (locked s i, .locked)]
      (accept (s.modRenderer i fun r => { r with selected := v })
        (byte (sourceCode v) ++ byte (sourceCode (s.screen i).renderer.current.source)))
  | _, _ => refuse s .badArgument

/-- SELECT_SOURCE (R28). -/
def execSelectSource (p : PortId) (params : List Byte) (s : State) : Host.Outcome State Fault Refusal :=
  .next (runCommand s p 0x17#8 params (· == 2) fun s => selectSource s p params)

end Sys2Proof.Machine
end

