-- ==== Sys2Proof/Machine/Loop.lean ====
section
/-!
DEFINITION. The cue loop (spec/08): frames and their CRC, the transmit queue, arbitration and sending, tallies, timeouts, stations
going DOWN and joining, the station table; the rows FRAME_TRANSMISSION_END, FRAME_RECEIVED, REPLY_TIMER_EXPIRY,
STATION_TIMER_EXPIRY and SEND_ORDER.
-/

namespace Sys2Proof.Machine

/-! ### Frames (R196) -/

/-- One bit into the CRC register of x^16 + x^12 + x^5 + 1 (R196). -/
def crcBit (r : BitVec 16) (bit : Bool) : BitVec 16 :=
  if r.msb != bit then (r <<< 1) ^^^ 0x1021#16 else r <<< 1

/-- One byte into the CRC register, most significant bit first (R196). -/
def crcByte (r : BitVec 16) (b : Byte) : BitVec 16 :=
  [7, 6, 5, 4, 3, 2, 1, 0].foldl (fun r k => crcBit r (b.getLsbD k)) r

/-- The CRC of a frame's bytes 1 to its last payload byte (R196). -/
def crc (bs : List Byte) : BitVec 16 := bs.foldl crcByte 0xFFFF#16

/-- The bytes of a frame from the start marker to the CRC, `body` being bytes 1 to the last payload byte (R196). -/
def framed (body : List Byte) : List Byte := [0xA5#8] ++ body ++ bytesOf 2 (crc body).toNat

/-- A frame of the part as it is sent (R196). -/
def LoopFrame.bytes : LoopFrame → List Byte
  | .order k number reply code argument =>
    framed (byte (16 * (k.val + 1) + 1) ++ byte ((if reply then 128 else 0) + number) ++ byte code ++ bytesOf 2 argument)
  | .broadcast address code argument _ => framed (byte (16 * address + 2) ++ byte code ++ bytesOf 2 argument)
  | .probe k => framed (byte (16 * (k.val + 1) + 3))
  | .restart k => framed (byte (16 * (k.val + 1) + 4))

/-- A good TALLY (R150). -/
structure Tally where
  station : StationId
  ready : Bool
  fault : Bool
  next : Nat
  zone : Option Nat
deriving DecidableEq, Repr

/-- The zone a TALLY gives: 9 to 14, or none (R196). -/
def zoneOf (b : Byte) : Option Nat := if 9 ≤ b.toNat ∧ b.toNat ≤ 14 then some b.toNat else none

/-- A received frame as a good TALLY: none where the CRC does not match, the type is not TALLY or the address lies outside
1 to 8 (R150, R196). -/
def tallyOf (bytes : List Byte) : Option Tally :=
  match bytes with
  | [marker, head, status, zone, hi, lo] =>
    if marker == 0xA5#8 && head.toNat % 16 == 8 && natOfBytes [hi, lo] == (crc [head, status, zone]).toNat then
      (numbered 8 (head.toNat / 16)).map fun k =>
        ⟨k, status.getLsbD 7, status.getLsbD 6, status.toNat % 8, zoneOf zone⟩
    else none
  | _ => none

/-! ### The queue (R154) -/

/-- LOOP_CONGESTED ends when the queue holds fewer than 24 orders (R154). -/
def settleCongestion (s : State) : State :=
  if s.loop.congested && decide (s.loop.queue.length < 24) then
    alarmEnd (s.modLoop fun l => { l with congested := false }) .loopCongested .device
  else s

/-- A refused order starts LOOP_CONGESTED if it does not stand (R154). -/
def startCongestion (s : State) : State :=
  if s.loop.congested then s
  else alarmStart (s.modLoop fun l => { l with congested := true }) .loopCongested .device

/-- An order that the transmitter took from the queue in the slot in which the loop became FREE is still to be judged with the frames
that become due at that instant (R156; log 25). -/
def orderOpen (s : State) : Bool :=
  s.loop.freedAt == some s.scanner.slot && match s.loop.state, s.loop.source with
    | .sending _, some (.queue _) => true
    | _, _ => false

/-- The orders that count among the queue's 32: those it holds, and one whose taking is still open to judgement, since it goes back
where a frame of a higher rank becomes due at the same instant (R154, R156; DESIGN CHOICE, log 25). -/
def ordersHeld (s : State) : Nat := s.loop.queue.length + (orderOpen s).toNat

/-- The queue has room for an order (R154). -/
def queueHasRoom (s : State) : Bool := ordersHeld s < 32

/-- An order at the queue's tail (R154). -/
def enqueue (s : State) (o : Order) : State := s.modLoop fun l => { l with queue := l.queue ++ [o] }

/-- Report the fate of an order to the cue it came from (R143). -/
def reportOrder (o : CueOutcome) (s : State) (origin : OrderOrigin) : State :=
  match origin with
  | .cue ref => reportCue s ref o
  | .port _ => s

/-- The order is an ORDER to the station (R154). -/
def Order.isFor (k : StationId) (o : Order) : Bool := o.form == .order k

/-! ### Arbitration and sending (R156, R157) -/

/-- An order of the queue is eligible (R156). -/
def eligible (s : State) (o : Order) : Bool :=
  match o.form with
  | .broadcast _ => true
  | .order k =>
    let r := s.station k
    r.state == .up && decide (r.outstanding.length < 3) && r.resend.isNone

/-- The oldest eligible order of a queue with its place, and the queue without it (R156). -/
def takeEligible (s : State) : List Order → Option (Order × Nat × List Order)
  | [] => none
  | o :: rest =>
    if eligible s o then some (o, 0, rest) else (takeEligible s rest).map fun x => (x.1, x.2.1 + 1, o :: x.2.2)

/-- The loop becomes FREE (R151). -/
def freeLoop (s : State) : State := s.modLoop fun l => { l with state := .free, freedAt := some s.scanner.slot }

/-- The transmitter begins to send a frame that it has taken from its source (R151, R156). -/
def startSending (s : State) (f : LoopFrame) (source : FrameSource) : State :=
  s.modLoop fun l => { l with state := .sending f, source := some source }

/-- Send the order of the evacuation slot, which is emptied (R155). -/
def sendEvacuation (s : State) (o : EvacOrder) : State :=
  startSending (s.modLoop fun l => { l with evacuationSlot := none }) (.broadcast o.address o.code o.argument none) .evacuation

/-- Send a station's due PROBE or RESTART, which ceases to be due (R156). -/
def sendDue (s : State) (k : StationId) (d : FrameDue) : State :=
  startSending (s.modStation k fun r => { r with due := none }) (match d with
    | .probe => .probe k
    | .restart => .restart k) .due

/-- Send again the outstanding order at the resend position; the position moves on (R157). -/
def sendAgain (s : State) (k : StationId) (at_ : Nat) (o : Outstanding) : State :=
  let last := decide ((s.station k).outstanding.length ≤ at_ + 1)
  startSending (s.modStation k fun r => { r with resend := if last then none else some (at_ + 1) })
    (.order k o.number last o.code o.argument) (.resend at_)

/-- Send a new ORDER to a station: it takes the next send number and joins the outstanding list (R157). -/
def sendOrderTo (s : State) (k : StationId) (o : Order) (place : Nat) (rest : List Order) : State :=
  let r := s.station k
  let reply := decide (3 ≤ r.outstanding.length + 1) || !(rest.any fun q => q.isFor k)
  let s := settleCongestion (s.modLoop fun l => { l with queue := rest })
  startSending
    (s.modStation k fun r =>
      { r with next := (r.next + 1) % 8, outstanding := r.outstanding ++ [⟨r.next, o.code, o.argument, o.origin⟩] })
    (.order k r.next reply o.code o.argument) (.queue place)

/-- Send a BROADCAST of the queue (R156). -/
def sendBroadcast (s : State) (address : Nat) (o : Order) (place : Nat) (rest : List Order) : State :=
  startSending (settleCongestion (s.modLoop fun l => { l with queue := rest }))
    (.broadcast address o.code o.argument (some o.origin)) (.queue place)

/-- A station's frame that is due (R156 item 2). -/
def firstDue (s : State) : Option (StationId × FrameDue) :=
  (stationIds.filterMap fun k => (s.station k).due.map fun d => (k, d)).head?

/-- The resend that is due (R156 item 3). -/
def firstResend (s : State) : Option (StationId × Nat × Outstanding) :=
  (stationIds.filterMap fun k =>
    let r := s.station k
    if r.state == .up then r.resend.bind fun j => r.outstanding[j]?.map fun o => (k, j, o) else none).head?

/-- The transmitter takes the first due frame, if there is one (R156). -/
def takeFrame (s : State) : State :=
  match s.loop.evacuationSlot, firstDue s, firstResend s, takeEligible s s.loop.queue with
  | some o, _, _, _ => sendEvacuation s o
  | none, some (k, d), _, _ => sendDue s k d
  | none, none, some (k, j, o), _ => sendAgain s k j o
  | none, none, none, some (o, place, rest) =>
    match o.form with
    | .order k => sendOrderTo s k o place rest
    | .broadcast a => sendBroadcast s a o place rest
  | none, none, none, none => s

/-! ### The instant at which the loop becomes FREE (R156) -/

/-- An order goes back to its place in the queue (R154, R156; log 25). -/
def putBack (s : State) (place : Nat) (o : Order) : State :=
  s.modLoop fun l => { l with queue := l.queue.take place ++ o :: l.queue.drop place }

/-- A PROBE or RESTART is due again, unless its station has been disabled or has another frame due. -/
def giveDue (s : State) (k : StationId) (d : FrameDue) : State :=
  if (s.station k).state == .absent then s else s.modStation k fun r => { r with due := r.due.or (some d) }

/-- A resend goes back to its position, unless its order has been removed. -/
def giveResend (s : State) (k : StationId) (at_ number : Nat) : State :=
  let r := s.station k
  if r.state == .up && r.outstanding[at_]?.map Outstanding.number == some number then
    s.modStation k fun r => { r with resend := some at_ }
  else s

/-- A new ORDER leaves the outstanding list again and goes back to its place, unless it has been removed. -/
def giveOrder (s : State) (k : StationId) (place number code argument : Nat) : State :=
  match (s.station k).outstanding.getLast? with
  | some o =>
    if o.number == number then
      putBack (s.modStation k fun r => { r with next := number, outstanding := r.outstanding.dropLast }) place
        ⟨.order k, code, argument, o.origin⟩
    else s
  | none => s

/-- The frame that is being sent goes back to where it was taken from; one that has been removed with its station does not
(R152, R156; log 25). -/
def giveBack (s : State) (f : LoopFrame) (source : FrameSource) : State :=
  match source, f with
  | .evacuation, .broadcast address code argument _ =>
    s.modLoop fun l => { l with evacuationSlot := l.evacuationSlot.or (some ⟨address, code, argument⟩) }
  | .due, .probe k => giveDue s k .probe
  | .due, .restart k => giveDue s k .restart
  | .resend j, .order k number _ _ _ => giveResend s k j number
  | .queue p, .order k number _ code argument => giveOrder s k p number code argument
  | .queue p, .broadcast address code argument (some origin) => putBack s p ⟨.broadcast address, code, argument, origin⟩
  | _, _ => s

/-- At the instant at which the loop became FREE the frame that the transmitter has taken is still to be judged with those that
become due: it goes back, and the loop is FREE (R156; DESIGN CHOICE, log 25). -/
def reopen (s : State) : State :=
  match s.loop.state, s.loop.source with
  | .sending f, some source =>
    if s.loop.freedAt == some s.scanner.slot then
      (giveBack s f source).modLoop fun l => { l with state := .free, source := none }
    else s
  | _, _ => s

/-- Whenever the loop is FREE the transmitter takes a due frame; all that are due at the instant at which the loop became FREE are
judged together (R151, R156). -/
def arbitrate (s : State) : State :=
  match (reopen s).loop.state with
  | .free => takeFrame (reopen s)
  | .sending _ => s
  | .awaiting _ _ => s

/-! ### Timeouts, DOWN and joining (R160, R161) -/

/-- The instant `ms` milliseconds from now, in conversion slots of 125 µs (R84). -/
def afterMs (s : State) (ms : Nat) : Nat := s.scanner.slot + 8 * ms

/-- A wait for a station ends (R151, R152). -/
def endWait (s : State) (k : StationId) : State :=
  match s.loop.state with
  | .awaiting j _ => if j == k then freeLoop s else s
  | .free => s
  | .sending _ => s

/-- Where the frame taken came from once every order of a station ahead of it has been removed (R156; log 25). -/
def FrameSource.without (k : StationId) (os : List Order) : FrameSource → FrameSource
  | .queue place => .queue ((os.take place).filter fun o => !o.isFor k).length
  | .evacuation => .evacuation
  | .due => .due
  | .resend position => .resend position

/-- Every order of a station is removed: the outstanding ones, oldest first, then those in the queue, each cue's reported
FAILED_STATION (R160 step 2). -/
def removeOrders (s : State) (k : StationId) : State :=
  let origins := (s.station k).outstanding.map Outstanding.origin ++ (s.loop.queue.filter (·.isFor k)).map Order.origin
  let s := s.modStation k fun r => { r with outstanding := [] }
  let s := s.modLoop fun l =>
    { l with
      queue := l.queue.filter fun o => !o.isFor k
      source := l.source.map (FrameSource.without k l.queue) }
  settleCongestion (origins.foldl (reportOrder .failedStation) s)

/-- A station goes DOWN (R160). -/
def goDown (s : State) (k : StationId) : State :=
  let stood := (s.station k).downStands
  let s := s.modStation k fun r => { r with state := .down, retry := 0, next := 0, oldest := 0, resend := none }
  let s := removeOrders s k
  let s := s.modStation k fun r => { r with downStands := true, timer := some (afterMs s 1000) }
  alarmChange s .stationDown (.station k) stood true

/-- A request to a station went unanswered; `due` is the frame that becomes due unless the retry limit is passed (R160). -/
def retryOrDown (s : State) (k : StationId) (due : FrameDue) : State :=
  let count := min 255 ((s.station k).retry + 1)
  if s.loop.table.retryLimit == 7 || decide (count ≤ s.loop.table.retryLimit) then
    s.modStation k fun r => { r with retry := count, due := some due, timer := none }
  else goDown s k

/-- The expiry of the reply timer as the station's record takes it (R160). -/
def unanswered (s : State) (k : StationId) : State :=
  match (s.station k).state with
  | .up => retryOrDown s k .probe
  | .busy => retryOrDown s k .probe
  | .joining => retryOrDown s k .restart
  | .down => s.modStation k fun r => { r with timer := some (afterMs s 1000) }
  | .absent => s

/-- A station enters JOINING (R161). -/
def enterJoining (s : State) (k : StationId) : State :=
  s.modStation k fun r =>
    { r with
      state := .joining
      next := 0
      oldest := 0
      retry := 0
      resend := none
      timer := none
      due := some .restart }

/-- A station is disabled by a station table (R152; log 14 for the elements R152 does not name). -/
def disableStation (s : State) (k : StationId) : State :=
  let r := s.station k
  let s := removeOrders s k
  let s := s.modStation k fun r =>
    { r with
      state := .absent
      next := 0
      oldest := 0
      resend := none
      retry := 0
      fault := false
      timer := none
      due := none
      downStands := false }
  let s := alarmChange s .stationDown (.station k) r.downStands false
  let s := alarmChange s .stationFault (.station k) r.fault false
  endWait s k

/-- A station table takes the place of the one that stands, with its effects on the stations (R152). -/
def commitStationTable (s : State) (t : StationTable) : State :=
  let old := s.loop.table.enabled
  let s := s.modLoop fun l => { l with table := t }
  arbitrate (stationIds.foldl (fun s k =>
    match old.getLsbD k.val, t.enabled.getLsbD k.val with
    | false, true => enterJoining s k
    | true, false => disableStation s k
    | true, true => s
    | false, false => s) s)

/-! ### Tallies (R159, R161, R163) -/

/-- The ready flag of an accepted TALLY: a station not ready is BUSY with its timer at 100 ms, a ready one UP with its timer
stopped (R159 steps 4 and 5). -/
def Station.takeReady (r : Station) (ready : Bool) (expiry : Nat) : Station :=
  if ready then { r with state := .up, timer := none } else { r with state := .busy, timer := some expiry }

/-- A TALLY in range in UP or BUSY that acknowledges the first `j` outstanding orders (R159). -/
def acceptTally (s : State) (t : Tally) (j : Nat) : State :=
  let k := t.station
  let acknowledged := (s.station k).outstanding.take j
  let s := s.modStation k fun r =>
    { r with
      retry := 0
      due := if r.due == some .probe then none else r.due
      outstanding := r.outstanding.drop j
      oldest := t.next }
  let s := (acknowledged.map Outstanding.origin).foldl (reportOrder .delivered) s
  s.modStation k fun r =>
    { r with resend := if r.outstanding.isEmpty then none else some 0 }.takeReady t.ready (afterMs s 100)

/-- A TALLY with next-expected 0 in JOINING (R161). -/
def joinTally (s : State) (t : Tally) : State :=
  let k := t.station
  let stood := (s.station k).downStands
  let s := s.modStation k fun r =>
    { r with retry := 0, due := none, zone := t.zone, downStands := false }.takeReady t.ready (afterMs s 100)
  alarmChange s .stationDown (.station k) stood false

/-- The station record takes what a TALLY says by its state (R159 to R161). -/
def judgeTally (s : State) (t : Tally) : State :=
  let r := s.station t.station
  let j := (t.next + 8 - r.oldest % 8) % 8
  match r.state with
  | .absent => s
  | .joining => if t.next == 0 then joinTally s t else unanswered s t.station
  | .up => if j ≤ r.outstanding.length then acceptTally s t j else unanswered s t.station
  | .busy => if j ≤ r.outstanding.length then acceptTally s t j else unanswered s t.station
  | .down => enterJoining s t.station

/-- The fault flag of a TALLY (R163). -/
def takeFault (s : State) (t : Tally) : State :=
  let r := s.station t.station
  if r.state == .absent then s
  else
    alarmChange (s.modStation t.station fun r => { r with fault := t.fault }) .stationFault (.station t.station)
      r.fault t.fault

/-- A good TALLY is taken (R150): its judgement first and its fault flag afterwards, so that a TALLY that sends its station DOWN
with a new fault makes the STATION_DOWN record before the STATION_FAULT record (R163; DESIGN CHOICE, log 14). -/
def takeTally (s : State) (t : Tally) : State := arbitrate (takeFault (judgeTally (endWait s t.station) t) t)

/-! ### Rows -/

/-- The loop after the last byte of a frame: AWAITING for a request to a station that is not ABSENT, else FREE (R151). -/
def awaitReply (s : State) (k : StationId) : State :=
  if (s.station k).state == .absent then freeLoop s
  else s.modLoop fun l => { l with state := .awaiting k (afterMs s l.table.replyTimeout) }

/-- A frame's transmission ends (R151, R158). -/
def transmissionEnd (s : State) : State :=
  match s.loop.state with
  | .sending (.order k _ true _ _) => arbitrate (awaitReply s k)
  | .sending (.order _ _ false _ _) => arbitrate (freeLoop s)
  | .sending (.broadcast _ _ _ origin) =>
    let s := freeLoop s
    arbitrate (match origin with
      | some o => reportOrder .delivered s o
      | none => s)
  | .sending (.probe k) => arbitrate (awaitReply s k)
  | .sending (.restart k) => arbitrate (awaitReply s k)
  | .free => s
  | .awaiting _ _ => s

/-- FRAME_TRANSMISSION_END (R151). -/
def execFrameTransmissionEnd (s : State) : Host.Outcome State Fault Refusal := .next (whenRunning s transmissionEnd)

/-- The loop as a frame that arrives now finds it: at the instant of a reply timer's expiry it is FREE, and what the transmitter
has taken is still to be judged (R151, R156; logs 6, 25). -/
def atExpiry (s : State) : State := if s.loop.expiredAt == some s.scanner.slot then reopen s else s

/-- A whole frame has been received; what arrives while the part is SENDING is not gathered (R150, R151, R196). -/
def frameReceived (s : State) (bytes : List Byte) : State :=
  match tallyOf bytes, (atExpiry s).loop.state with
  | some _, .sending _ => s
  | some t, .free => takeTally (atExpiry s) t
  | some t, .awaiting _ _ => takeTally (atExpiry s) t
  | none, _ => s

/-- FRAME_RECEIVED (R150). -/
def execFrameReceived (bytes : List Byte) (s : State) : Host.Outcome State Fault Refusal :=
  .next (whenRunning s fun s => frameReceived s bytes)

/-- The reply timer expires in AWAITING (R151, R160). -/
def replyTimerExpiry (s : State) : State :=
  match s.loop.state with
  | .awaiting k _ =>
    arbitrate (unanswered ((freeLoop s).modLoop fun l => { l with expiredAt := some s.scanner.slot }) k)
  | .free => s
  | .sending _ => s

/-- REPLY_TIMER_EXPIRY (R160). -/
def execReplyTimerExpiry (s : State) : Host.Outcome State Fault Refusal := .next (whenRunning s replyTimerExpiry)

/-- A running station timer of a BUSY or DOWN station expires (R159, R160). -/
def stationTimerExpiry (s : State) (k : StationId) : State :=
  let r := s.station k
  if r.timer.isSome && (r.state == .busy || r.state == .down) then
    arbitrate (s.modStation k fun r => { r with timer := none, due := some .probe })
  else s

/-- STATION_TIMER_EXPIRY (R160). -/
def execStationTimerExpiry (k : StationId) (s : State) : Host.Outcome State Fault Refusal :=
  .next (whenRunning s fun s => stationTimerExpiry s k)

/-! ### SEND ORDER (R162) -/

/-- The form of an order to an address 1 to 15 (R154). -/
def formOf (address : Nat) : Option OrderForm :=
  match numbered 8 address with
  | some k => some (.order k)
  | none => if 9 ≤ address ∧ address ≤ 15 then some (.broadcast address) else none

/-- The order's station takes no orders: ABSENT or DOWN (R154, R162). -/
def stationGone (s : State) (f : OrderForm) : Bool :=
  match f with
  | .order k => (s.station k).state == .absent || (s.station k).state == .down
  | .broadcast _ => false

/-- SEND ORDER (R162). -/
def sendOrder (s : State) (p : PortId) (params : List Byte) : Answer :=
  let code := natField params 1 1
  let argument := natField params 2 2
  match formOf (natField params 0 1) with
  | none => refuse s .badArgument
  | some f =>
    checked s [(decide (127 < code), .badArgument), (!hasHouseRight s p, .denied), (stationGone s f, .wrongState)]
      (if queueHasRoom s then
        let s := enqueue s ⟨f, code, argument, .port p⟩
        ⟨.normal, .ok, byte s.loop.queue.length, arbitrate s⟩
      else ⟨.refused, .busy, [], startCongestion s⟩)

/-- SEND_ORDER (R162). -/
def execSendOrder (p : PortId) (params : List Byte) (s : State) : Host.Outcome State Fault Refusal :=
  .next (runCommand s p 0x1C#8 params (· == 4) fun s => sendOrder s p params)

end Sys2Proof.Machine
end

