-- ==== Sys2Proof/Machine/Cues.lean ====
section
/-!
DEFINITION. Cue lines and cues (spec/07): line actions, the execution of a cue, normal advance and chase; the rows PULSE_END and
SET_LINE.
-/

namespace Sys2Proof.Machine

/-! ### Line actions (R145) -/

/-- What is done to a cue line (R145). -/
inductive LineAction where
  | set
  | clear
  | pulse (duration : Nat)
deriving DecidableEq, Repr

/-- A line takes actions from a screen: its owner is the screen or HOUSE (R145). -/
def CueLine.accepts (r : CueLine) (i : ScreenId) : Bool :=
  match r.owner with
  | .house => true
  | .screen j => i == j

/-- A line after an action that comes from a screen and is accepted (R145). -/
def CueLine.act (r : CueLine) (i : ScreenId) : LineAction → CueLine
  | .set => { r with flag := true }
  | .clear => { r with flag := false }
  | .pulse d => { r with pulse := d, pulseScreen := some i }

/-- A line action from a screen: carried out where the line accepts it, dropped otherwise (R145). -/
def lineAction (s : State) (l : LineId) (i : ScreenId) (a : LineAction) : State :=
  if (s.line l).accepts i then s.modLine l fun r => r.act i a else s

/-- A line at a boundary of its pulse screen: the pulse remaining falls by 1, and at 0 the pulse has ended (R145). -/
def CueLine.countDown (r : CueLine) : CueLine :=
  if r.pulse ≤ 1 then { r with pulse := 0, pulseScreen := none } else { r with pulse := r.pulse - 1 }

/-- The pulses counted in the screen's blocks at its boundary, but for those whose end was a step of its own (R145). -/
def pulseBoundary (s : State) (i : ScreenId) : State :=
  lineIds.foldl (fun s l =>
    if (s.line l).pulseScreen == some i && !subStepTaken s i (.pulse l) then s.modLine l CueLine.countDown else s) s

/-- PULSE_END (R145): at a boundary of the pulse screen a pulse of one remaining block ends. -/
def execPulseEnd (l : LineId) (s : State) : Host.Outcome State Fault Refusal :=
  .next (match (s.line l).pulseScreen with
    | some i => atBoundary s i (.pulse l) (fun s => decide ((s.line l).pulse ≤ 1)) fun s => s.modLine l CueLine.countDown
    | none => s)

/-! ### Execution of cues (R140 to R142) -/

/-- The chase group of a state cue; none for an event cue (R131). -/
inductive ChaseGroup where
  | fader | preset | source | lock
  | line (l : LineId)
deriving DecidableEq, Repr

/-- R131. -/
def CueAction.group : CueAction → Option ChaseGroup
  | .fade _ _ => some .fader
  | .preset _ => some .preset
  | .source _ => some .source
  | .lineSet l => some (.line l)
  | .lineClear l => some (.line l)
  | .linePulse _ _ => none
  | .order _ _ _ => none
  | .lock _ => some .lock

/-- Change one cue of a screen's list. -/
def modCue (s : State) (i : ScreenId) (n : Nat) (f : Cue → Cue) : State :=
  s.modControl i fun c => { c with cues := c.cues.modify n f }

/-- A cue is taken: its flag is set under a fresh serial number, its outcome NONE until its execution gives one (R136,
R143). -/
def takeCue (s : State) (i : ScreenId) (n : Nat) : State :=
  let t := s.takings + 1
  modCue { s with takings := t } i n fun q => { q with taken := true, outcome := .none, taking := t }

/-- The outcome of a cue that has just been taken. -/
def setOutcome (s : State) (i : ScreenId) (n : Nat) (o : CueOutcome) : State := modCue s i n fun q => { q with outcome := o }

/-- The reference by which the taking just made is reported (R143). -/
def lastTaking (s : State) (i : ScreenId) (n : Nat) : CueRef := ⟨i, n, s.takings⟩

/-- A line cue is executed: DONE where the unit accepts the action, NONE where it drops it (R140). -/
def executeLine (s : State) (i : ScreenId) (n : Nat) (l : LineId) (a : LineAction) : State :=
  let s' := lineAction s l i a
  if (s.line l).accepts i then setOutcome s' i n .done else s'

/-- An ORDER cue is handed to the loop: PENDING, FAILED_QUEUE with a full queue, FAILED_STATION where its station is gone
(R142, R154). -/
def executeOrder (s : State) (i : ScreenId) (n : Nat) (address code argument : Nat) : State :=
  match formOf address with
  | none => s
  | some f =>
    if queueHasRoom s then
      if stationGone s f then setOutcome s i n .failedStation
      else enqueue (setOutcome s i n .pending) ⟨f, code, argument, .cue (lastTaking s i n)⟩
    else startCongestion (setOutcome s i n .failedQueue)

/-- Execute the cue just taken in a normal advance (R140 to R142). -/
def executeCue (s : State) (i : ScreenId) (n : Nat) (a : CueAction) : State :=
  match a with
  | .fade target duration =>
    setOutcome (s.modControl i fun c => { c with move := takeFade c.fader target duration }) i n .done
  | .preset k => requestActivation s i ⟨k, .cue (lastTaking s i n)⟩
  | .source v => setOutcome (s.modRenderer i fun r => { r with selected := v }) i n .done
  | .lineSet l => executeLine s i n l .set
  | .lineClear l => executeLine s i n l .clear
  | .linePulse l d => executeLine s i n l (.pulse d)
  | .order address code argument => executeOrder s i n address code argument
  | .lock on => setOutcome (s.modControl i fun c => { c with lock := on }) i n .done

/-! ### Normal advance (R136) -/

/-- Take and execute a cue that is due: enabled, untaken, its time at or before p (R136). -/
def advanceCue (p : Nat) (i : ScreenId) (s : State) (n : Nat) : State :=
  match (s.control i).cues[n]? with
  | some q => if q.enabled && !q.taken && decide (q.time ≤ p) then executeCue (takeCue s i n) i n q.action else s
  | none => s

/-- The indexes of a screen's cue list, in list order. -/
def cueIndexes (s : State) (i : ScreenId) : List Nat := List.range (s.control i).cues.length

/-- A normal advance at position p (R136). -/
def normalAdvance (s : State) (i : ScreenId) (p : Nat) : State := (cueIndexes s i).foldl (advanceCue p i) s

/-! ### Chase (R137, R138) -/

/-- The cue belongs to a group and is enabled at or before n. -/
def Cue.prescribes (q : Cue) (g : ChaseGroup) (n : Nat) : Bool :=
  q.enabled && q.action.group == some g && decide (q.time ≤ n)

/-- Some enabled cue of the group stands at or before n. -/
def groupPrescribed (cues : List Cue) (g : ChaseGroup) (n : Nat) : Bool := cues.any fun q => q.prescribes g n

/-- A preset request in a chase is needless: the preset is active, no switch is in progress and nothing is pending (R138). -/
def presetStands (s : State) (i : ScreenId) (k : PresetId) : Bool :=
  let e := s.equaliser i
  e.active == k && e.switch == .none && e.pending.isNone

/-- Execute the cue just taken in instant form (R138); event cues are not applied. -/
def applyCue (s : State) (i : ScreenId) (n : Nat) (a : CueAction) : State :=
  match a with
  | .fade target _ => setOutcome (s.modControl i fun c => { c with move := .setNext target }) i n .done
  | .preset k =>
    if presetStands s i k then setOutcome s i n .done else requestActivation s i ⟨k, .cue (lastTaking s i n)⟩
  | .source v => setOutcome (s.modRenderer i fun r => { r with selected := v }) i n .done
  | .lineSet l => executeLine s i n l .set
  | .lineClear l => executeLine s i n l .clear
  | .lock on => setOutcome (s.modControl i fun c => { c with lock := on }) i n .done
  | .linePulse _ _ => s
  | .order _ _ _ => s

/-- Step 1: in a backward chase every cue after n is untaken (R137). -/
def untake (s : State) (i : ScreenId) (n : Nat) : State :=
  s.modControl i fun c =>
    { c with cues := c.cues.map fun q => if n < q.time then { q with taken := false, outcome := .none } else q }

/-- Mark a cue taken with outcome NONE where it is enabled, untaken, at or before n and of the kind asked for (R137 steps 2
and 5). -/
def markPassed (eventsOnly : Bool) (p : Nat) (i : ScreenId) (s : State) (n : Nat) : State :=
  match (s.control i).cues[n]? with
  | some q =>
    if q.enabled && !q.taken && decide (q.time ≤ p) && (!eventsOnly || q.action.group.isNone) then takeCue s i n else s
  | none => s

/-- Step 3: in a backward chase the groups with no enabled cue at or before n return to the opening state (R137, R138).
A recorded line that has changed its owner since returns where it is HOUSE and stays where another screen owns it (DESIGN
CHOICE, log 24). -/
def openingReturns (s : State) (i : ScreenId) (n : Nat) : State :=
  let c := s.control i
  match c.opening with
  | none => s
  | some o =>
    let gone (g : ChaseGroup) : Bool := !groupPrescribed c.cues g n
    let s := if gone .fader then s.modControl i fun c => { c with move := .setNext o.fader } else s
    let s := if gone .preset && !presetStands s i o.preset then requestActivation s i ⟨o.preset, .openingReturn⟩ else s
    let s := if gone .source then s.modRenderer i fun r => { r with selected := o.source } else s
    let s := o.lines.foldl (fun s x =>
      if gone (.line x.1) then lineAction s x.1 i (if x.2 then .set else .clear) else s) s
    if gone .lock then s.modControl i fun c => { c with lock := o.lock } else s

/-- The cue at an index is the last enabled one of its group at or before n (R137 step 4). -/
def lastOfGroup (cues : List Cue) (n p : Nat) : Bool :=
  match cues[n]? with
  | some q => match q.action.group with
    | some g => q.prescribes g p && !(cues.drop (n + 1)).any fun r => r.prescribes g p
    | none => false
  | none => false

/-- Step 4 for one cue: the last of its group is taken and applied in instant form (R137). -/
def applyGroup (p : Nat) (i : ScreenId) (s : State) (n : Nat) : State :=
  let cues := (s.control i).cues
  match cues[n]? with
  | some q => if lastOfGroup cues n p then applyCue (takeCue s i n) i n q.action else s
  | none => s

/-- A chase to n, from o where there is one; a start chase has none (R137). -/
def chase (s : State) (i : ScreenId) (o : Option Nat) (n : Nat) : State :=
  let backward := match o with
    | some o => decide (n ≤ o)
    | none => false
  let indexes := cueIndexes s i
  let s := if backward then untake s i n else s
  let s := indexes.foldl (markPassed true n i) s
  let s := if backward then openingReturns s i n else s
  let s := indexes.foldl (applyGroup n i) s
  indexes.foldl (markPassed false n i) s

/-! ### SET LINE (R147) -/

def ownerByte : LineOwner → List Byte
  | .house => byte 0
  | .screen i => numberByte i

def roleByte : LineRole → List Byte
  | .plain => byte 0
  | .alarmLamp i => numberByte i
  | .evac => byte 5

/-- A line record as a payload gives it (R144, R198). -/
def CueLine.bytes (r : CueLine) : List Byte :=
  ownerByte r.owner ++ roleByte r.role ++ flagByte r.inverted ++ flagByte r.flag ++ bytesOf 2 r.pulse
    ++ optional numberByte r.pulseScreen

/-- The action that a SET LINE names (R198). -/
def lineActionOf (code duration : Nat) : Option LineAction :=
  match code with
  | 0 => some .set
  | 1 => some .clear
  | 2 => some (.pulse duration)
  | _ => none

/-- The port holds the right that a line asks for (R147). -/
def coversLine (s : State) (p : PortId) (l : LineId) : Bool :=
  match (s.line l).owner with
  | .house => hasHouseRight s p
  | .screen i => covers s p i

/-- The screen from which a SET LINE comes: the owner, or for a HOUSE line the timing screen (R147). -/
def lineSource (s : State) (l : LineId) (timing : ScreenId) : ScreenId :=
  match (s.line l).owner with
  | .house => timing
  | .screen i => i

/-- SET LINE (R147). -/
def setLine (s : State) (p : PortId) (params : List Byte) : Answer :=
  let duration := natField params 2 2
  match numbered 16 (natField params 0 1), lineActionOf (natField params 1 1) duration, screenField params 4 with
  | some l, some a, some timing =>
    checked s [(decide (duration < 1 ∨ 1000 < duration), .badArgument), (!coversLine s p l, .denied)]
      (let s := lineAction s l (lineSource s l timing) a
       accept s (s.line l).bytes)
  | _, _, _ => refuse s .badArgument

/-- SET_LINE (R147). -/
def execSetLine (p : PortId) (params : List Byte) (s : State) : Host.Outcome State Fault Refusal :=
  .next (runCommand s p 0x1D#8 params (· == 5) fun s => setLine s p params)

end Sys2Proof.Machine
end

