-- ==== Sys2Proof/Machine/Show.lean ====
section
/-!
DEFINITION. Show control (spec/07): the start and end of a show, the show clock and its evaluation at a boundary, the fader and the
lock; the rows WAKE, SLEEP, START_SHOW, END_SHOW, SET_LEVEL, FADE, SET_LOCK, FADE_END and FREE_RUN_LIMIT.
-/

namespace Sys2Proof.Machine

/-! ### Start and end of a show (R126 to R128) -/

/-- The set flags of the screen's own lines (R126). -/
def ownedLines (s : State) (i : ScreenId) : List (LineId × Bool) :=
  lineIds.filterMap fun l => if (s.line l).owner == .screen i then some (l, (s.line l).flag) else none

/-- The opening state of a screen as it stands (R126 step 1). -/
def openingState (s : State) (i : ScreenId) : Opening :=
  let c := s.screen i
  ⟨c.control.fader, trimTarget c.equaliser, c.renderer.selected, ownedLines s i, c.control.lock⟩

/-- A cue as START SHOW leaves it: untaken, outcome NONE (R126 step 2). -/
def Cue.cleared (q : Cue) : Cue := { q with taken := false, outcome := .none }

/-- Steps 1 to 5 of R126; the screen's calibration requests end (R119). -/
def beginShow (s : State) (i : ScreenId) : State :=
  let opening := openingState s i
  let s := endRequests s (fun r => r.screen == i) .wrongState
  let s := setGovernor s i .reset
  let lockAtStart := (s.screen i).settings.lockAtStart
  s.modControl i fun c =>
    { c with
      state := .inShow
      opening := some opening
      cues := c.cues.map Cue.cleared
      lock := c.lock || lockAtStart
      clock := .waiting
      suspension := none
      resumeFrom := none
      lastEvaluated := none }

/-- The fader's move after END SHOW: a running fade ends (R128). -/
def FaderMove.endFade : FaderMove → FaderMove
  | .fade _ _ _ _ => .hold
  | .setNext v => .setNext v
  | .hold => .hold

/-- The effects of END SHOW (R128). -/
def finishShow (s : State) (i : ScreenId) : State :=
  (setGovernor s i .reset).modControl i fun c =>
    { c with
      state := .idle
      move := c.move.endFade
      lock := false
      opening := none
      clock := .none
      suspension := none
      resumeFrom := none }

/-! ### The show clock (R134, R135) -/

/-- The evaluation that a boundary makes (R134). -/
inductive Evaluation where
  | none
  | start (p : Nat)
  | advance (p : Nat)
  | chase (o n : Nat)
deriving DecidableEq, Repr

/-- The position of a clock, when it has one (R134). -/
def ShowClock.position : ShowClock → Option Nat
  | .none => Option.none
  | .waiting => Option.none
  | .tracking p => some p
  | .freeRun p _ => some p
  | .frozen p => some p

/-- A normal advance from q to p, which is a chase where the position range wraps (R134). -/
def advanceTo (q p : Nat) : Evaluation := if q == 16777215 && p == 0 then .chase q p else .advance p

/-- A step from q to a reported p that is expected, or not: a normal advance when p is q + 1, otherwise a chase (R134). -/
def returnTo (q p : Nat) : Evaluation := if p == nextPosition q then advanceTo q p else .chase q p

/-- The clock after a report (R134). -/
def clockAfter : Report → ShowClock
  | .normal p => .tracking p
  | .jump _ p => .tracking p
  | .streamLocked p => .tracking p
  | .streamLost p => .freeRun p 0

/-- The evaluation of a report with a clock at position q that is TRACKING (R134). -/
def trackingEvaluation (q : Nat) : Report → Evaluation
  | .normal p => advanceTo q p
  | .jump o n => .chase o n
  | .streamLost p => advanceTo q p
  | .streamLocked p => returnTo q p

/-- Where the clock goes with what is handed, and the evaluation that follows (R134, R135).  Pairs that the table of R134
does not list are taken as log 13 says. -/
def clockMove (clock : ShowClock) (limit : Nat) (handed : Option Report) : ShowClock × Evaluation :=
  match clock, handed with
  | .none, _ => (.none, .none)
  | .waiting, some r => (clockAfter r, .start r.position)
  | .tracking q, some r => (clockAfter r, trackingEvaluation q r)
  | .freeRun q _, some r => (clockAfter r, returnTo q r.position)
  | .frozen q, some r => (clockAfter r, returnTo q r.position)
  | .freeRun q n, none =>
    if n < limit then (.freeRun (nextPosition q) (n + 1), advanceTo q (nextPosition q)) else (.frozen q, .none)
  | .waiting, none => (.waiting, .none)
  | .tracking q, none => (.tracking q, .none)
  | .frozen q, none => (.frozen q, .none)

/-- Carry out an evaluation (R136, R137), which notes its position (R128). -/
def evaluate (s : State) (i : ScreenId) (e : Evaluation) : State :=
  let note (s : State) (p : Nat) : State := s.modControl i fun c => { c with lastEvaluated := some p }
  match e with
  | .none => s
  | .start p => note (chase s i none p) p
  | .advance p => note (normalAdvance s i p) p
  | .chase o n => note (chase s i (some o) n) n

/-- The evaluation that is made: none while suspended, and after a suspension a chase from its position (R139). -/
def resumed (c : ShowControl) (e : Evaluation) : Evaluation :=
  match c.suspension, c.resumeFrom, c.clock.position with
  | some _, _, _ => .none
  | none, some (some o), some p => .chase o p
  | none, some none, some p => .start p
  | none, some _, none => e
  | none, none, _ => e

/-- A resume chase that has been made is no longer due (R139). -/
def ShowControl.resumeDone (c : ShowControl) : ShowControl :=
  if c.suspension.isNone && c.clock.position.isSome then { c with resumeFrom := none } else c

/-- The free-run limit has been reached by a clock that is handed nothing (R135). -/
def freezes (clock : ShowClock) (limit : Nat) (handed : Option Report) : Bool :=
  match clock, handed with
  | .freeRun _ n, none => limit ≤ n
  | _, _ => false

/-- The clock moves, and the evaluation of the boundary is made; a clock that freezes with auto-end set ends the show instead
(R134, R135, R139).  A resume chase that is due at that very boundary is then dropped: R135 and R170 do not say whether it is made
before END SHOW (DESIGN CHOICE, log 17). -/
def runClock (s : State) (i : ScreenId) (handed : Option Report) : State :=
  let c := s.screen i
  let limit := c.settings.freeRunLimit
  let (clock, e) := clockMove c.control.clock limit handed
  let s := s.modControl i fun c => { c with clock := clock }
  if freezes c.control.clock limit handed && c.settings.autoEnd then finishShow s i
  else
    let e := resumed (s.control i) e
    evaluate (s.modControl i ShowControl.resumeDone) i e

/-- The conditions of an automatic start (R127). -/
def autoStarts (s : State) (i : ScreenId) : Bool :=
  let c := s.screen i
  c.settings.autoStart && !s.safety.asserted && !c.control.evacuationMute && !c.control.sleepHeld

/-- The show controller at a block boundary, with the report of the block that begins (R127, R134). -/
def showBoundary (s : State) (i : ScreenId) : State :=
  let c := s.screen i
  match c.control.state, c.lane.rendering.report with
  | .dark, _ => s
  | .idle, some (.streamLocked p) => if autoStarts s i then runClock (beginShow s i) i (some (.streamLocked p)) else s
  | .idle, _ => s
  | .inShow, handed => runClock s i handed

/-- What the coming boundary will hand over, before the lane has moved to it (R11). -/
def handedNext (l : Lane) : Option Report :=
  match l.alignIn with
  | some (_ + 1) => none
  | _ => l.receiving.report

/-- The free-run count has reached the limit and the coming boundary hands nothing (R135). -/
def freeRunDue (s : State) (i : ScreenId) : Bool :=
  let c := s.screen i
  c.control.state == .inShow && freezes c.control.clock c.settings.freeRunLimit (handedNext c.lane)

/-- The clock freezes, and auto-end ends the show (R135).  Where FREE_RUN_LIMIT is a step of its own, the show is over before the
boundary's other effects: a fade that runs is ended with the value the fader has before its move (R57), and the governor is reset
before its step, which the screen, no longer in SHOW, does not make, so that the ended block gives no P_b and completes no segment
(R95, R97).  Within BLOCK_BOUNDARY the fader has moved and the governor has stepped, and a GOVERNING record may differ.  R57, R95,
R97 and R135 do not say which (DESIGN CHOICE, log 5). -/
def freezeClock (s : State) (i : ScreenId) : State :=
  let c := s.screen i
  let s := s.modControl i fun k => { k with clock := match k.clock with
    | .freeRun q _ => .frozen q
    | other => other }
  if c.settings.autoEnd then finishShow s i else s

/-- FREE_RUN_LIMIT (R135). -/
def execFreeRunLimit (i : ScreenId) (s : State) : Host.Outcome State Fault Refusal :=
  .next (atBoundary s i .freeRun (fun s => freeRunDue s i) fun s => freezeClock s i)

/-! ### The fader at a boundary (R57) -/

/-- The fader takes the value of the block that begins (R57). -/
def ShowControl.moveFader (c : ShowControl) : ShowControl :=
  let (v, m) := faderNext c.fader c.move
  { c with fader := v, move := m }

/-- The running fade ends with the coming boundary (R57). -/
def fadeDue (s : State) (i : ScreenId) : Bool :=
  match (s.control i).move with
  | .fade _ _ d k => d ≤ k + 1
  | .setNext _ => false
  | .hold => false

/-- FADE_END (R57). -/
def execFadeEnd (i : ScreenId) (s : State) : Host.Outcome State Fault Refusal :=
  .next (atBoundary s i .fade (fun s => fadeDue s i) fun s => s.modControl i ShowControl.moveFader)

/-! ### WAKE and SLEEP (R124, R125) -/

/-- The payload of WAKE: the screen state. -/
def screenStateBytes (s : State) (i : ScreenId) : List Byte := byte (screenStateCode (s.control i).state)

/-- WAKE on a screen of the port (R124). -/
def wakeScreen (s : State) (i : ScreenId) : Answer :=
  let c := s.control i
  match c.state with
  | .dark =>
    let s := s.modControl i fun c => { c with state := .idle }
    let s := s.modEqualiser i fun e => { e with zeroDue := true }
    accept s (screenStateBytes s i)
  | .idle =>
    if c.sleepHeld then
      let s := s.modControl i fun c => { c with sleepHeld := false }
      accept s (screenStateBytes s i)
    else refuse s .wrongState
  | .inShow => refuse s .wrongState

/-- WAKE (R124). -/
def wake (s : State) (p : PortId) (params : List Byte) : Answer :=
  match screenField params 0 with
  | none => refuse s .badArgument
  | some i => checked s [(!covers s p i, .denied)] (wakeScreen s i)

/-- WAKE (R124). -/
def execWake (p : PortId) (params : List Byte) (s : State) : Host.Outcome State Fault Refusal :=
  .next (runCommand s p 0x10#8 params (· == 1) fun s => wake s p params)

/-- A screen in IDLE sleeps at once, or holds the SLEEP while a switch is in progress; in DARK nothing changes (R125). -/
def sleepScreen (s : State) (i : ScreenId) : State :=
  match (s.control i).state with
  | .idle =>
    if (s.equaliser i).switch == .none then enterDark s i else s.modControl i fun c => { c with sleepHeld := true }
  | .dark => s
  | .inShow => s

/-- SLEEP (R125). -/
def sleep (s : State) (p : PortId) (params : List Byte) : Answer :=
  match screenField params 0 with
  | none => refuse s .badArgument
  | some i =>
    checked s [(!covers s p i, .denied), ((s.control i).state == .inShow, .wrongState)]
      (let s := sleepScreen s i
       accept s (screenStateBytes s i ++ flagByte (s.control i).sleepHeld))

/-- SLEEP (R125). -/
def execSleep (p : PortId) (params : List Byte) (s : State) : Host.Outcome State Fault Refusal :=
  .next (runCommand s p 0x11#8 params (· == 1) fun s => sleep s p params)

/-! ### START SHOW and END SHOW (R126, R128) -/

/-- The set flags of the lines as a mask (R198). -/
def lineMask (lines : List (LineId × Bool)) : BitVec 16 :=
  lines.foldl (fun m x => if x.2 then m ||| BitVec.ofNat 16 (2 ^ x.1.val) else m) 0#16

/-- An opening state as a payload gives it (R126, R148). -/
def Opening.bytes (o : Opening) : List Byte :=
  signedBytes 2 o.fader ++ byte o.preset.val ++ byte (sourceCode o.source) ++ maskBytes (lineMask o.lines)
    ++ flagByte o.lock

/-- START SHOW (R126). -/
def startShow (s : State) (p : PortId) (params : List Byte) : Answer :=
  match screenField params 0 with
  | none => refuse s .badArgument
  | some i =>
    let c := s.control i
    checked s
      [(!covers s p i, .denied), (s.safety.asserted || c.evacuationMute, .evacuation),
        (c.state != .idle || c.sleepHeld, .wrongState)]
      (accept (beginShow s i) (openingState s i).bytes)

/-- START_SHOW (R126). -/
def execStartShow (p : PortId) (params : List Byte) (s : State) : Host.Outcome State Fault Refusal :=
  .next (runCommand s p 0x12#8 params (· == 1) fun s => startShow s p params)

/-- END SHOW (R128).  The last position evaluated stands behind a presence byte, and is absent when none was in this show (DESIGN
CHOICE, log 12). -/
def endShow (s : State) (p : PortId) (params : List Byte) : Answer :=
  match screenField params 0 with
  | none => refuse s .badArgument
  | some i =>
    let c := s.control i
    checked s [(!covers s p i, .denied), (c.state != .inShow, .wrongState)]
      (accept (finishShow s i) (signedBytes 2 c.fader ++ optional (bytesOf 3) c.lastEvaluated))

/-- END_SHOW (R128). -/
def execEndShow (p : PortId) (params : List Byte) (s : State) : Host.Outcome State Fault Refusal :=
  .next (runCommand s p 0x13#8 params (· == 1) fun s => endShow s p params)

/-! ### SET LEVEL and FADE (R129) -/

/-- A fader value within its range (R129). -/
def clampFader (v : Int) : Int := clamp (-960) 60 v

/-- SET LEVEL (R129). -/
def setLevel (s : State) (p : PortId) (params : List Byte) : Answer :=
  match screenField params 0 with
  | none => refuse s .badArgument
  | some i =>
    let v := clampFader (intField params 1 2)
    checked s [(!covers s p i, .denied)]
      (accept (s.modControl i fun c => { c with move := .setNext v }) (signedBytes 2 v))

/-- SET_LEVEL (R129). -/
def execSetLevel (p : PortId) (params : List Byte) (s : State) : Host.Outcome State Fault Refusal :=
  .next (runCommand s p 0x15#8 params (· == 3) fun s => setLevel s p params)

/-- FADE (R129). -/
def fade (s : State) (p : PortId) (params : List Byte) : Answer :=
  match screenField params 0 with
  | none => refuse s .badArgument
  | some i =>
    let v := clampFader (intField params 1 2)
    let d := min 6000 (natField params 3 2)
    checked s [(!covers s p i, .denied)]
      (accept (s.modControl i fun c => { c with move := takeFade c.fader v d }) (signedBytes 2 v ++ bytesOf 2 d))

/-- FADE (R129). -/
def execFade (p : PortId) (params : List Byte) (s : State) : Host.Outcome State Fault Refusal :=
  .next (runCommand s p 0x16#8 params (· == 5) fun s => fade s p params)

/-! ### SET LOCK (R130) -/

/-- SET LOCK (R130). -/
def setLock (s : State) (p : PortId) (params : List Byte) : Answer :=
  match screenField params 0, flagOfCode (natField params 1 1) with
  | some i, some on =>
    checked s [(!covers s p i, .denied)]
      (accept (s.modControl i fun c => { c with lock := on }) (flagByte (locked s i) ++ flagByte on))
  | _, _ => refuse s .badArgument

/-- SET_LOCK (R130). -/
def execSetLock (p : PortId) (params : List Byte) (s : State) : Host.Outcome State Fault Refusal :=
  .next (runCommand s p 0x19#8 params (· == 2) fun s => setLock s p params)

end Sys2Proof.Machine
end

