-- ==== Sys2Proof/Machine/Boundary.lean ====
section
/-!
DEFINITION. The row BLOCK_BOUNDARY: a block of a screen ends and the next begins (R2).
-/

namespace Sys2Proof.Machine

/-! ### Output gates (R49) -/

/-- A gate at a boundary, by whether its cause stands there (R49). -/
def Gate.next (g : Gate) (cause : Bool) : Gate :=
  match g, cause with
  | .opened, true => .closing
  | .opened, false => .opened
  | .closing, true => .closed
  | .closing, false => .opening
  | .closed, true => .closed
  | .closed, false => .opening
  | .opening, true => .closing
  | .opening, false => .opened

/-- The gates of a screen move (R49). -/
def gateBoundary (s : State) (i : ScreenId) : State :=
  let c := s.screen i
  let calibrating := calibrationRuns s i
  s.modPath i fun p =>
    { p with
      screenGate := p.screenGate.next (c.control.state == .dark)
      evacuationGate := p.evacuationGate.next c.control.evacuationMute
      calibrationGate := p.calibrationGate.next calibrating
      feeds := Tab.mapIdx (fun f q => { q with deadGate := q.deadGate.next (Tab.get c.feeds f).deadHere }) p.feeds }

/-! ### The block that begins (R45, R54) -/

/-- The level inputs of the block that begins, each taken as it stands now (R45). -/
def levelInputs (c : Screen) : LevelInputs :=
  let trims (v : Vector FeedRecord 16) : Vector Int 16 := Tab.map FeedRecord.trim v
  { fader := c.control.fader
    ceiling := c.governor.ceiling
    offset := if c.lane.rendering.report.isSome then c.lane.rendering.offset else 0
    trims := trims c.equaliser.running
    newTrims := trims (c.equaliser.incoming.getD c.equaliser.running)
    hot := Tab.map Feed.hot c.feeds }

/-- A feed's meter and clip count start afresh (R53, R54). -/
def FeedPath.fresh (p : FeedPath) : FeedPath := { p with peak := 0, energy := 0, clips := 0 }

/-- The block begins: its level inputs are taken, its meters and its sample index start at 0, and feeds that left DEAD by a
result of this boundary are ACTIVE to all from now on (R90). -/
def beginBlock (s : State) (i : ScreenId) : State :=
  let levels := levelInputs (s.screen i)
  let s := s.modFeeds i fun v => Tab.map (fun r => { r with revived := false }) v
  s.modPath i fun p => { p with levels := levels, index := 0, taken := [], feeds := Tab.map FeedPath.fresh p.feeds }

/-! ### The boundary -/

/-- Do what a sub-step stands for unless it was taken as a step of its own (log 4). -/
def unlessTaken (s : State) (i : ScreenId) (sub : SubStep) (f : State → State) : State :=
  if subStepTaken s i sub then s else f s

/-- The block that has ended: level watch, governor, sweep, pulses, fader and the section pool (R57, R66, R77, R83, R95,
R111, R145; the order is log 5's). -/
def endedBlock (s : State) (i : ScreenId) : State :=
  let s := watchBoundary s i
  let s := unlessTaken s i .segment fun s => governorStep s i
  let s := unlessTaken s i .calibration fun s => sweepBoundary s i
  let s := pulseBoundary s i
  let s := unlessTaken s i .fade fun s => s.modControl i ShowControl.moveFader
  let s := unlessTaken s i .switchProgress fun s => poolBoundary s i
  zeroChains s i

/-- The block that begins: lane, renderer, show controller, a sweep that starts, gates and level inputs (R11, R30, R35, R45,
R49, R110, R134; the order is log 5's). -/
def beganBlock (s : State) (i : ScreenId) : State :=
  let s := s.modLane i Lane.boundary
  let s := rendererBoundary s i
  let s := showBoundary s i
  let s := startHeads 8 s i
  let s := gateBoundary s i
  arbitrate (beginBlock s i)

/-- A block boundary of a screen, where it is due (R2). -/
def blockBoundary (s : State) (i : ScreenId) : State :=
  if boundaryDue (s.screen i) then beganBlock (endedBlock s i) i else s

/-- BLOCK_BOUNDARY (R2). -/
def execBlockBoundary (i : ScreenId) (s : State) : Host.Outcome State Fault Refusal :=
  .next (whenRunning s fun s => blockBoundary s i)

end Sys2Proof.Machine
end

