-- ==== Sys2Proof/Machine/House.lean ====
section
/-!
DEFINITION. The house safety override (spec/09): recognition of the safety input, assertion and release; the rows
SAFETY_INPUT_SAMPLE and RESUME.
-/

namespace Sys2Proof.Machine

/-! ### Assertion and release (R167, R169) -/

/-- A show controller at the assertion: the mute is set, and a screen in SHOW that is not suspended is suspended at its clock's
position (R139, R167). -/
def ShowControl.evacuate (c : ShowControl) : ShowControl :=
  match c.state, c.suspension with
  | .inShow, none => { c with evacuationMute := true, suspension := some c.clock.position, resumeFrom := none }
  | .inShow, some _ => { c with evacuationMute := true }
  | .idle, _ => { c with evacuationMute := true }
  | .dark, _ => { c with evacuationMute := true }

/-- The evacuation order goes into its slot, when the station table gives one (R155). -/
def fillEvacuationSlot (s : State) : State :=
  match s.loop.table.evacuation with
  | some o => s.modLoop fun l => { l with evacuationSlot := some o }
  | none => s

/-- The safety input is recognised as asserted (R167). -/
def safetyAsserted (s : State) : State :=
  let s := { s with safety := { s.safety with asserted := true } }
  let s := screenIds.foldl (fun s i => s.modControl i ShowControl.evacuate) s
  let s := endRequests s (fun _ => true) .evacuation
  let s := alarmStart s .evacuation .device
  arbitrate (fillEvacuationSlot s)

/-- The safety input is recognised as released (R169). -/
def safetyReleased (s : State) : State :=
  alarmEnd { s with safety := { s.safety with asserted := false } } .evacuation .device

/-- A sample of the safety input: a change is recognised at the second equal sample that differs from the recognised state
(R166). -/
def safetySample (s : State) (level : Bool) : State :=
  let changes := level != s.safety.asserted && s.safety.previous == some level
  let s := { s with safety := { s.safety with previous := some level } }
  if changes then (if level then safetyAsserted s else safetyReleased s) else s

/-- SAFETY_INPUT_SAMPLE (R166). -/
def execSafetyInputSample (asserted : Bool) (s : State) : Host.Outcome State Fault Refusal :=
  .next (whenRunning s fun s => safetySample s asserted)

/-! ### RESUME (R170) -/

/-- The mute or the suspension of a screen is set. -/
def resumable (s : State) (i : ScreenId) : Bool := (s.control i).evacuationMute || (s.control i).suspension.isSome

/-- The mute and the suspension are cleared, and a chase from the suspension position falls due (R139, R170). -/
def ShowControl.resume (c : ShowControl) : ShowControl :=
  match c.suspension with
  | some p => { c with evacuationMute := false, suspension := none, resumeFrom := some p }
  | none => { c with evacuationMute := false }

/-- Resume screens; the payload lists each with its suspension position (R170). -/
def resumeScreens (s : State) (screens : List ScreenId) : Answer :=
  accept (screens.foldl (fun s i => s.modControl i ShowControl.resume) s)
    (listed (fun i => numberByte i ++ optional (bytesOf 3) ((s.control i).suspension.getD none)) screens)

/-- RESUME (R170). -/
def resume (s : State) (p : PortId) (params : List Byte) : Answer :=
  if natField params 0 1 == 0 then
    checked s [(s.safety.asserted, .evacuation)]
      (resumeScreens s (screenIds.filter fun i => covers s p i && resumable s i))
  else
    match screenField params 0 with
    | none => refuse s .badArgument
    | some i =>
      checked s [(!covers s p i, .denied), (s.safety.asserted, .evacuation), (!resumable s i, .wrongState)]
        (resumeScreens s [i])

/-- RESUME (R170). -/
def execResume (p : PortId) (params : List Byte) (s : State) : Host.Outcome State Fault Refusal :=
  .next (runCommand s p 0x14#8 params (· == 1) fun s => resume s p params)

end Sys2Proof.Machine
end

