-- ==== Sys2Proof/Machine/Loads.lean ====
section
/-!
DEFINITION. Staged content (12.3, R195): reading and writing cue lists, render tables, presets, settings, line, station and access
tables; the judgement and commit of each (R37, R64, R132, R144, R152, R179, R180); the row CLOSE_LOAD.
-/

namespace Sys2Proof.Machine

/-- `n` members of `width` bytes from the front, with the bytes that follow; none where the bytes end before (R195). -/
def takeMembers (width : Nat) : Nat → List Byte → Option (List (List Byte) × List Byte)
  | 0, bs => some ([], bs)
  | n + 1, bs =>
    if bs.length < width then none
    else (takeMembers width n (bs.drop width)).map fun x => (bs.take width :: x.1, x.2)

/-- All members of `width` bytes; none where the bytes do not divide into whole ones (R195). -/
def wholeMembers (width : Nat) (bs : List Byte) : Option (List (List Byte)) :=
  if bs.length % width == 0 then (takeMembers width (bs.length / width) bs).map Prod.fst else none

/-- Apply a partial reading to every member. -/
def readAll {α : Type} (read : List Byte → Option α) : List (List Byte) → Option (List α)
  | [] => some []
  | m :: rest => match read m, readAll read rest with
    | some a, some as => some (a :: as)
    | _, _ => none

/-- A table of `n` entries from a list of them. -/
def tableOf {α : Type} {n : Nat} (default : α) (xs : List α) : Vector α n := Tab.build fun i => xs.getD i.val default

/-! ### Cue lists (R132) -/

/-- The action of a cue record's bytes; none for an unknown kind or an argument out of range; `lineFits` judges the line of a
line cue (R132, R195). -/
def cueActionOf (lineFits : LineId → Bool) (bs : List Byte) : Option CueAction :=
  let line := (numbered 16 (natField bs 5 1)).filter lineFits
  match natField bs 3 1 with
  | 1 => some (.fade (clampFader (intField bs 5 2)) (min 6000 (natField bs 7 2)))
  | 2 => (indexed 4 (natField bs 5 1)).map .preset
  | 3 => (sourceOfCode (natField bs 5 1)).map .source
  | 4 => line.map .lineSet
  | 5 => line.map .lineClear
  | 6 =>
    let d := natField bs 6 2
    if 1 ≤ d ∧ d ≤ 1000 then line.map fun l => .linePulse l d else none
  | 7 =>
    let address := natField bs 5 1
    let code := natField bs 6 1
    if 1 ≤ address ∧ address ≤ 15 ∧ code ≤ 127 then some (.order address code (natField bs 7 2)) else none
  | 8 => (flagOfCode (natField bs 5 1)).map .lock
  | _ => none

/-- A cue record (R195): untaken, outcome NONE. -/
def cueOf (lineFits : LineId → Bool) (bs : List Byte) : Option Cue :=
  (cueActionOf lineFits bs).map fun a => ⟨natField bs 0 3, a, natField bs 4 1 != 0, false, .none, 0⟩

/-- Put a cue behind those of its time or an earlier one (R131). -/
def insertCue (q : Cue) : List Cue → List Cue
  | [] => [q]
  | r :: rest => if q.time < r.time then q :: r :: rest else r :: insertCue q rest

/-- Sort cues by time, keeping the load order among equal times (R132). -/
def sortCues (qs : List Cue) : List Cue := qs.foldl (fun sorted q => insertCue q sorted) []

/-- The records held by all four lists (R131). -/
def cuesHeld (s : State) : Nat := (screenIds.map fun i => (s.control i).cues.length).sum

/-- The free record count (R131). -/
def freeCues (s : State) : Nat := 256 - cuesHeld s

/-- The records that a list of the screen may have beside those of the other three (R132). -/
def cueRoom (s : State) (i : ScreenId) : Nat :=
  256 - ((screenIds.filter fun j => j != i).map fun j => (s.control j).cues.length).sum

/-- Replace a screen's cue list (R132). -/
def commitCues (s : State) (i : ScreenId) (cues : List Cue) : State :=
  s.modControl i fun c => { c with cues := sortCues cues }

/-- The target's own checks of a cue list load, and its commit (R132). -/
def loadCues (s : State) (bs : List Byte) : Answer :=
  match screenField bs 0 with
  | none => refuse s .badArgument
  | some i =>
    if (s.control i).state == .inShow then refuse s .wrongState
    else match wholeMembers 12 (bs.drop 1) with
      | none => refuse s .badLength
      | some members => match readAll (cueOf fun l => (s.line l).accepts i) members with
        | none => refuse s .badArgument
        | some cues =>
          if cueRoom s i < cues.length then refuse s .cueMemoryFull
          else
            let s := commitCues s i cues
            accept s (bytesOf 2 cues.length ++ bytesOf 2 (freeCues s))

/-! ### Render tables (R37, R38) -/

/-- A row as its bytes announce it: the surround flag and the terms' bytes. -/
abbrev RawRow := Bool × List (List Byte)

/-- `n` rows from the front (R195). -/
def takeRows : Nat → List Byte → Option (List RawRow × List Byte)
  | 0, bs => some ([], bs)
  | n + 1, bs =>
    match bs with
    | [] => none
    | head :: rest =>
      match takeMembers 4 (head.toNat % 128) rest with
      | none => none
      | some (terms, rest) => (takeRows n rest).map fun x => ((head.getLsbD 7, terms) :: x.1, x.2)

/-- Row sets up to the last byte, each a format byte and sixteen rows; `fuel` bounds their number (R195). -/
def takeRowSets : Nat → List Byte → Option (List (Nat × List RawRow))
  | _, [] => some []
  | 0, _ :: _ => none
  | fuel + 1, format :: rest =>
    match takeRows 16 rest with
    | none => none
    | some (rows, rest) => (takeRowSets fuel rest).map fun x => (format.toNat, rows) :: x

/-- A term, its level clamped (R37). -/
def termOf (bs : List Byte) : Option Term :=
  match numbered 14 (natField bs 0 1), flagOfCode (natField bs 3 1) with
  | some c, some negative => some ⟨c, clamp (-960) 120 (intField bs 1 2), negative⟩
  | _, _ => none

/-- A row of at most 4 terms (R37). -/
def rowOf (raw : RawRow) : Option Row :=
  if raw.2.length ≤ 4 then (readAll termOf raw.2).map fun terms => ⟨raw.1, terms⟩ else none

/-- The rows of one row set (R37). -/
def rowSetOf (raw : List RawRow) : Option RowSet :=
  let rows := raw.filterMap rowOf
  if rows.length == raw.length then some (tableOf ⟨false, []⟩ rows) else none

/-- The terms of a render table (R22). -/
def termCount (t : RenderTable) : Nat :=
  ((Tab.list t).map fun rows => ((Tab.list rows).map fun r => r.terms.length).sum).sum

/-- The table that would result from carried row sets, in the order of the checks of R37. -/
def judgeRowSets (table : RenderTable) (raw : List (Nat × List RawRow)) : Except Reason RenderTable :=
  let formats := raw.map Prod.fst
  if formats.any fun f => (numbered 7 f).isNone || decide (1 < formats.count f) then .error .badArgument
  else
    let sets := raw.filterMap fun x => match numbered 7 x.1, rowSetOf x.2 with
      | some f, some rows => some (f, rows)
      | _, _ => none
    if sets.length < raw.length then .error .badArgument
    else
      let new := sets.foldl (fun t x => Tab.set t x.1 x.2) table
      if 192 < termCount new then .error .tableFull else .ok new

/-- Replace a screen's render table (R38). -/
def commitRender (s : State) (i : ScreenId) (t : RenderTable) : State := s.modRenderer i fun r => { r with table := t }

/-- The target's own checks of a render table load, and its commit (R37, R38). -/
def loadRender (s : State) (bs : List Byte) : Answer :=
  match bs.drop 1, takeRowSets bs.length (bs.drop 1) with
  | [], _ => refuse s .badLength
  | _ :: _, none => refuse s .badLength
  | _ :: _, some raw =>
    match screenField bs 0 with
    | none => refuse s .badArgument
    | some i => match judgeRowSets (s.screen i).renderer.table raw with
      | .error r => refuse s r
      | .ok t => accept (commitRender s i t) (byte (termCount t))

/-! ### Presets (R64, R65) -/

/-- The coefficient set of 15 bytes (R195). -/
def coefficientsOf (bs : List Byte) : Coefficients :=
  let word (k : Nat) : Word := BitVec.ofNat 24 (natField bs (3 * k) 3)
  ⟨word 0, word 1, word 2, word 3, word 4⟩

/-- A feed entry whose count byte has been read: trim, delay and the announced coefficient sets; none where the bytes end
before (R64). -/
def entryOf (count : Nat) (bs : List Byte) : Option (FeedEntry × List Byte) :=
  if bs.length < 4 then none
  else (takeMembers 15 count (bs.drop 4)).map fun x =>
    (⟨x.1.map coefficientsOf, clamp (-120) 60 (intField bs 0 2), min 2400 (natField bs 2 2)⟩, x.2)

/-- `n` feed entries, read in order to the last byte (R64). -/
def entriesOf : Nat → List Byte → Except Reason (List FeedEntry)
  | 0, [] => .ok []
  | 0, _ :: _ => .error .badLength
  | _ + 1, [] => .error .badLength
  | n + 1, count :: rest =>
    if 12 < count.toNat then .error .badArgument
    else match entryOf count.toNat rest with
      | none => .error .badLength
      | some (e, rest) => match entriesOf n rest with
        | .error r => .error r
        | .ok es => .ok (e :: es)

/-- A preset of sixteen feed entries (R64). -/
def presetOf (bs : List Byte) : Except Reason Preset :=
  match entriesOf 16 bs with
  | .error r => .error r
  | .ok es => .ok (tableOf ⟨[], 0, 0⟩ es)

/-- The preset is the one a cut brings in, before its exchange boundary (R64, R65). -/
def beingCutIn (s : State) (i : ScreenId) (n : PresetId) : Bool :=
  match (s.equaliser i).switch with
  | .cutOut r _ => r.preset == n
  | .none => false
  | .crossfade _ => false
  | .cutIn _ => false

/-- Replace a bank entry (R65). -/
def commitPreset (s : State) (i : ScreenId) (n : PresetId) (p : Preset) : State :=
  s.modEqualiser i fun e => { e with bank := Tab.set e.bank n p }

/-- The target's own checks of a preset load, and its commit (R64, R65). -/
def loadPreset (s : State) (bs : List Byte) : Answer :=
  match screenField bs 0 with
  | none => refuse s .badArgument
  | some i =>
    if bs.length < 2 then refuse s .badLength
    else match indexed 4 (natField bs 1 1) with
      | none => refuse s .badArgument
      | some n =>
        checked s [(n == 0 && (s.equaliser i).commissioned.isSome, .commissioned), (beingCutIn s i n, .busy)]
          (match presetOf (bs.drop 2) with
          | .error r => refuse s r
          | .ok p => accept (commitPreset s i n p) (numberByte i ++ byte n.val ++ byte (totalSections p)))

/-! ### Settings (R179) -/

/-- The cover setting of a byte: 0 for none, 1 to 16 (R34). -/
def coverOf (n : Nat) : Option (Option FeedId) := if n == 0 then some none else (numbered 16 n).map some

/-- The cover feeds keep R34: no feed names itself, no two name the same. -/
def coversValid (v : Vector (Option FeedId) 16) : Bool :=
  feedIds.all fun f => match Tab.get v f with
    | none => true
    | some c => c != f && feedIds.all fun g => g == f || Tab.get v g != some c

/-- The settings of 42 bytes; none where a choice lies outside its choices or the cover feeds break R34.  Numbers are clamped
to their ranges (R179, R195). -/
def settingsOf (bs : List Byte) : Option Settings :=
  match readAll (fun b => coverOf (natOfBytes b)) ((slice bs 5 16).map fun b => [b]),
    natField bs 2 1, natField bs 36 1, flagOfCode (natField bs 37 1), flagOfCode (natField bs 38 1),
    flagOfCode (natField bs 39 1) with
  | some covers, fallback, powerOn, some autoStart, some autoEnd, some lockAtStart =>
    let cover : Vector (Option FeedId) 16 := tableOf none covers
    if (fallback == 1 || fallback == 2) && powerOn ≤ 1 && coversValid cover then
      some
        { nMiss := clampNat 1 15 (natField bs 1 1)
          fallbackNonsync := fallback == 1
          surroundDelay := min 1200 (natField bs 3 2)
          cover := cover
          senseFitted := BitVec.ofNat 16 (natField bs 21 2)
          deadFloor := clamp (-600) (-200) (intField bs 23 2)
          deadBlocks := clampNat 1 255 (natField bs 25 1)
          hotBlocks := clampNat 1 255 (natField bs 27 1)
          overThreshold := clamp (-200) 0 (intField bs 28 2)
          overBlocks := clampNat 1 100 (natField bs 30 1)
          exposureMask := BitVec.ofNat 16 (natField bs 31 2)
          exposureLimit := clamp (-400) 0 (intField bs 33 2)
          powerOnPreset := (indexed 4 (natField bs 35 1)).getD 3
          powerOnState := if powerOn == 0 then .dark else .idle
          autoStart := autoStart
          autoEnd := autoEnd
          lockAtStart := lockAtStart
          freeRunLimit := min 6000 (natField bs 40 2) }
    else none
  | _, _, _, _, _, _ => none

/-- Replace a screen's settings; lines whose sense-fitted flag is now clear leave the rotation (R85, R179). -/
def commitSettings (s : State) (i : ScreenId) (v : Settings) : State := syncRotation (s.modSettings i fun _ => v) i

/-- The target's own checks of a settings load, and its commit (R179). -/
def loadSettings (s : State) (bs : List Byte) : Answer :=
  if bs.length != 42 then refuse s .badLength
  else match screenField bs 0, settingsOf bs with
    | some i, some v => accept (commitSettings s i v) (numberByte i)
    | _, _ => refuse s .badArgument

/-! ### Line table (R144) -/

/-- Owner, role and polarity of a line entry (R195). -/
def lineEntryOf (bs : List Byte) : Option (LineOwner × LineRole × Bool) :=
  let owner : Option LineOwner :=
    if natField bs 0 1 == 0 then some .house else (numbered 4 (natField bs 0 1)).map .screen
  let role : Option LineRole :=
    if natField bs 1 1 == 0 then some .plain
    else if natField bs 1 1 == 5 then some .evac
    else (numbered 4 (natField bs 1 1)).map .alarmLamp
  match owner, role, flagOfCode (natField bs 2 1) with
  | some o, some r, some inverted => some (o, r, inverted)
  | _, _, _ => none

/-- The sixteen line entries of 48 bytes. -/
def lineTableOf (bs : List Byte) : Option (List (LineOwner × LineRole × Bool)) :=
  (wholeMembers 3 bs).bind (readAll lineEntryOf)

/-- Replace owner, role and polarity of every line; flags and pulses are kept (R144). -/
def commitLines (s : State) (entries : List (LineOwner × LineRole × Bool)) : State :=
  { s with lines := Tab.mapIdx (fun l r => match entries[l.val]? with
      | some (o, role, inverted) => { r with owner := o, role := role, inverted := inverted }
      | none => r) s.lines }

/-- The target's own checks of a line table load, and its commit (R144). -/
def loadLines (s : State) (bs : List Byte) : Answer :=
  if bs.length != 48 then refuse s .badLength
  else match lineTableOf bs with
    | some entries => accept (commitLines s entries) []
    | none => refuse s .badArgument

/-! ### Station table (R152) -/

/-- The station table of 8 bytes; none where an evacuation order given is out of range (R152, R195). -/
def stationTableOf (bs : List Byte) : Option StationTable :=
  let table : StationTable := ⟨BitVec.ofNat 8 (natField bs 0 1), max 5 (natField bs 1 1), min 7 (natField bs 2 1), none⟩
  if natField bs 3 1 == 0 then some table
  else
    let address := natField bs 4 1
    let code := natField bs 5 1
    if 9 ≤ address ∧ address ≤ 15 ∧ code ≤ 127 then
      some { table with evacuation := some ⟨address, code, natField bs 6 2⟩ }
    else none

/-- The target's own checks of a station table load, and its commit (R152). -/
def loadStations (s : State) (bs : List Byte) : Answer :=
  if bs.length != 8 then refuse s .badLength
  else match stationTableOf bs with
    | some t => accept (commitStationTable s t) []
    | none => refuse s .badArgument

/-! ### Access table (R180) -/

/-- One entry of the access table (R195). -/
def accessOf (bs : List Byte) : Access := ⟨BitVec.ofNat 4 (natField bs 0 1), natField bs 1 1 != 0⟩

/-- The five entries of 10 bytes; none where no entry holds the house right (R180). -/
def accessTableOf (bs : List Byte) : Option (List Access) :=
  match wholeMembers 2 bs with
  | some members =>
    let entries := members.map accessOf
    if entries.any Access.house then some entries else none
  | none => none

/-- Replace the access table (R180). -/
def commitAccess (s : State) (entries : List Access) : State :=
  { s with ports := Tab.mapIdx (fun p q => { q with access := entries.getD p.val q.access }) s.ports }

/-- One entry of the access table in bytes (R195). -/
def Access.bytes (a : Access) : List Byte := byte a.screens.toNat ++ flagByte a.house

/-- The target's own checks of an access table load, and its commit (R180).  The payload, the new table, has the layout of the load:
one byte for each screen mask and one for each house right, the five entries with no count byte before them (R195; DESIGN CHOICE,
log 12). -/
def loadAccess (s : State) (bs : List Byte) : Answer :=
  if bs.length != 10 then refuse s .badLength
  else match accessTableOf bs with
    | some entries => accept (commitAccess s entries) (entries.flatMap Access.bytes)
    | none => refuse s .badArgument

/-! ### CLOSE LOAD (R178) -/

/-- The target is a table of the device, which needs house right (R178). -/
def LoadTarget.needsHouse : LoadTarget → Bool
  | .lineTable | .stationTable | .accessTable => true
  | .cueList | .renderTable | .preset | .settings => false

/-- The target's own checks and commit (R178). -/
def loadTarget (s : State) (t : LoadTarget) (bs : List Byte) : Answer :=
  match t with
  | .cueList => loadCues s bs
  | .renderTable => loadRender s bs
  | .preset => loadPreset s bs
  | .settings => loadSettings s bs
  | .lineTable => loadLines s bs
  | .stationTable => loadStations s bs
  | .accessTable => loadAccess s bs

/-- The access and lock checks common to all targets (R178). -/
def loadChecks (s : State) (p : PortId) (t : LoadTarget) (bs : List Byte) : List (Bool × Reason) :=
  if t.needsHouse then [(!hasHouseRight s p, .denied)]
  else match screenField bs 0 with
    | some i => [(!covers s p i, .denied), (locked s i, .locked)]
    | none => []

/-- Close the port's staging (R178). -/
def closeStaging (s : State) (p : PortId) : State := s.modPort p fun q => { q with staging := .closed }

/-- An answer after which the staging is CLOSED (R178). -/
def Answer.closing (a : Answer) (p : PortId) : Answer := { a with state := closeStaging a.state p }

/-- CLOSE LOAD (R178). -/
def closeLoad (s : State) (p : PortId) (params : List Byte) : Answer :=
  match (s.port p).staging with
  | .closed => refuse s .wrongState
  | .overflowed _ _ => Answer.closing ⟨.abrupt, .overflow, [], s⟩ p
  | .opened t bs _ =>
    Answer.closing
      (if natField params 0 2 != bs.length then refuse s .badLength
      else checked s (loadChecks s p t bs) (loadTarget s t bs)) p

/-- CLOSE_LOAD (R178). -/
def execCloseLoad (p : PortId) (params : List Byte) (s : State) : Host.Outcome State Fault Refusal :=
  .next (runCommand s p 0x22#8 params (· == 2) fun s => closeLoad s p params)

/-! ### Writing the layouts (R190, log 9) -/

def cueKindBytes : CueAction → List Byte
  | .fade target d => signedBytes 2 target ++ bytesOf 2 d ++ bytesOf 3 0
  | .preset n => byte n.val ++ bytesOf 6 0
  | .source v => byte (sourceCode v) ++ bytesOf 6 0
  | .lineSet l => numberByte l ++ bytesOf 6 0
  | .lineClear l => numberByte l ++ bytesOf 6 0
  | .linePulse l d => numberByte l ++ bytesOf 2 d ++ bytesOf 4 0
  | .order address code argument => byte address ++ byte code ++ bytesOf 2 argument ++ bytesOf 3 0
  | .lock on => flagByte on ++ bytesOf 6 0

def cueKindCode : CueAction → Nat
  | .fade _ _ => 1
  | .preset _ => 2
  | .source _ => 3
  | .lineSet _ => 4
  | .lineClear _ => 5
  | .linePulse _ _ => 6
  | .order _ _ _ => 7
  | .lock _ => 8

/-- A cue record of 12 bytes (R195). -/
def Cue.record (q : Cue) : List Byte :=
  bytesOf 3 q.time ++ byte (cueKindCode q.action) ++ flagByte q.enabled ++ cueKindBytes q.action

/-- A term of 4 bytes (R195). -/
def Term.bytes (t : Term) : List Byte := numberByte t.channel ++ signedBytes 2 t.level ++ flagByte t.negative

/-- A row (R195). -/
def Row.bytes (r : Row) : List Byte :=
  byte ((if r.surround then 128 else 0) + r.terms.length) ++ r.terms.flatMap Term.bytes

/-- The seven row sets of a table (R195). -/
def renderBytes (t : RenderTable) : List Byte :=
  (List.finRange 7).flatMap fun f => byte (f.val + 1) ++ (Tab.list (Tab.get t f)).flatMap Row.bytes

/-- A coefficient set of 15 bytes (R195). -/
def Coefficients.bytes (c : Coefficients) : List Byte :=
  [c.b0, c.b1, c.b2, c.a1, c.a2].flatMap fun w => bytesOf 3 w.toNat

/-- A feed entry (R195). -/
def FeedEntry.bytes (e : FeedEntry) : List Byte :=
  byte e.sections.length ++ signedBytes 2 e.trim ++ bytesOf 2 e.delay ++ e.sections.flatMap Coefficients.bytes

/-- The 42 bytes of a screen's settings (R195). -/
def settingsBytes (i : ScreenId) (v : Settings) : List Byte :=
  numberByte i ++ byte v.nMiss ++ byte (if v.fallbackNonsync then 1 else 2) ++ bytesOf 2 v.surroundDelay
    ++ (Tab.list v.cover).flatMap (fun c => byte (match c with
      | some f => f.val + 1
      | none => 0))
    ++ maskBytes v.senseFitted ++ signedBytes 2 v.deadFloor ++ byte v.deadBlocks ++ byte 0 ++ byte v.hotBlocks
    ++ signedBytes 2 v.overThreshold ++ byte v.overBlocks ++ maskBytes v.exposureMask ++ signedBytes 2 v.exposureLimit
    ++ byte v.powerOnPreset.val ++ byte (match v.powerOnState with
      | .dark => 0
      | .idle => 1)
    ++ flagByte v.autoStart ++ flagByte v.autoEnd ++ flagByte v.lockAtStart ++ bytesOf 2 v.freeRunLimit

/-- A line entry of 3 bytes (R195). -/
def CueLine.entry (r : CueLine) : List Byte := ownerByte r.owner ++ roleByte r.role ++ flagByte r.inverted

/-- The 8 bytes of a station table (R195). -/
def StationTable.bytes (t : StationTable) : List Byte :=
  byte t.enabled.toNat ++ byte t.replyTimeout ++ byte t.retryLimit ++ (match t.evacuation with
    | some o => byte 1 ++ byte o.address ++ byte o.code ++ bytesOf 2 o.argument
    | none => bytesOf 5 0)

end Sys2Proof.Machine
end

