-- ==== Sys2Proof/Config.lean ====
section
/-!
DEFINITION. What the spec leaves unknown, as constants without a body: nothing can be proved of their values.
-/

namespace Sys2Proof

/-- What a store place holds after a programming that did not end well: the content of a place that the RESET line
interrupted ("unknown content", R194), and the content of a place that failed its verify (R190).  The first five bytes are
the header where the header itself is unknown. -/
opaque Config.unknownBytes : Nat → List Byte

/-- A byte shifted out after the status byte in a window that begins in EXECUTE: R174 states the status byte only. -/
opaque Config.unstatedByte : Nat → Byte

end Sys2Proof
end

