-- ==== Sys2Proof/Machine/Store.lean ====
section
/-!
DEFINITION. The preset store (spec/11): records and places, writing, reading, erasing; the rows STORE, STORE_WRITE_COMPLETE,
RECALL, RECALL_READ_COMPLETE, WIPE_SCREEN, ERASE_COMPLETE and COMMISSION.
-/

namespace Sys2Proof.Machine

/-! ### Records (11.1, R197) -/

/-- What a record holds (11.1). -/
inductive RecordName where
  | device
  | settings (i : ScreenId)
  | render (i : ScreenId)
  | cues (i : ScreenId)
  | preset (i : ScreenId) (n : PresetId)
deriving DecidableEq, Repr

/-- The record number of record k of a screen (R197). -/
def screenRecord (i : ScreenId) (k : Fin 7) : RecordId := ⟨1 + 7 * i.val + k.val, by omega⟩

/-- The record of DEVICE (R197). -/
def deviceRecord : RecordId := 0

/-- Record k of a screen: SETTINGS, RENDER, CUES, PRESET0 to PRESET3 (R197). -/
def screenRecordName (i : ScreenId) (k : Fin 7) : RecordName :=
  match k with
  | 0 => .settings i
  | 1 => .render i
  | 2 => .cues i
  | 3 => .preset i 0
  | 4 => .preset i 1
  | 5 => .preset i 2
  | 6 => .preset i 3

/-- What the record of a number holds (R197). -/
def recordName (r : RecordId) : RecordName :=
  if h : r.val = 0 then .device
  else screenRecordName ⟨(r.val - 1) / 7, by omega⟩ ⟨(r.val - 1) % 7, by omega⟩

/-- The seven records of a screen, in record order. -/
def screenRecords (i : ScreenId) : List RecordId := (List.finRange 7).map (screenRecord i)

/-! ### The content of a record (11.1; log 9) -/

/-- The calibration data of a feed in a SETTINGS record (R122). -/
def Feed.calibrationBytes (r : Feed) : List Byte :=
  match r.calibration with
  | none => byte 0 ++ bytesOf 4 0
  | some (tcal, scal) => byte 1 ++ signedBytes 2 tcal ++ bytesOf 2 scal

/-- The commissioned mark and trims in a PRESET0 record (R76). -/
def commissionBytes (c : Option (Vector Int 16)) : List Byte :=
  match c with
  | none => byte 0 ++ bytesOf 32 0
  | some trims => byte 1 ++ (Tab.list trims).flatMap (signedBytes 2)

/-- The content of a record, taken from working memory (R190). -/
def recordContent (s : State) (r : RecordId) : List Byte :=
  match recordName r with
  | .device =>
    (Tab.list s.ports).flatMap (fun q => q.access.bytes) ++ (Tab.list s.lines).flatMap CueLine.entry ++ s.loop.table.bytes
  | .settings i =>
    settingsBytes i (s.screen i).settings ++ (Tab.list (s.screen i).feeds).flatMap Feed.calibrationBytes
  | .render i => numberByte i ++ renderBytes (s.screen i).renderer.table
  | .cues i => numberByte i ++ (s.control i).cues.flatMap Cue.record
  | .preset i n =>
    numberByte i ++ byte n.val ++ (Tab.list (Tab.get (s.equaliser i).bank n)).flatMap FeedEntry.bytes
      ++ (if n == 0 then commissionBytes (s.equaliser i).commissioned else [])

/-! ### Taking a record into working memory (R188, R191) -/

/-- What becomes of a record whose checksum matches: taken, a cue list that does not fit the cue memory, or content that is no
such record. -/
inductive Taking where
  | taken (s : State)
  | unfit
  | bad

/-- The calibration data of a feed, read back (R122). -/
def calibrationOf (bs : List Byte) : Option (Option (Int × Nat)) :=
  match natField bs 0 1 with
  | 0 => some none
  | 1 => some (some (intField bs 1 2, natField bs 3 2))
  | _ => none

/-- The commissioned mark and trims, read back (R76). -/
def commissionOf (bs : List Byte) : Option (Option (Vector Int 16)) :=
  match natField bs 0 1 with
  | 0 => some none
  | 1 => some (some (Tab.build fun f => intField bs (1 + 2 * f.val) 2))
  | _ => none

/-- The DEVICE record's three tables; the station table is committed by `stations` (R188, R191). -/
def takeDevice (stations : State → StationTable → State) (s : State) (bs : List Byte) : Taking :=
  if bs.length != 66 then .bad
  else match accessTableOf (slice bs 0 10), lineTableOf (slice bs 10 48), stationTableOf (slice bs 58 8) with
    | some access, some lines, some table => .taken (stations (commitLines (commitAccess s access) lines) table)
    | _, _, _ => .bad

/-- A SETTINGS record: the settings, and the calibration data of every feed (R122, R191). -/
def takeSettings (s : State) (i : ScreenId) (bs : List Byte) : Taking :=
  if bs.length != 122 then .bad
  else match settingsOf (slice bs 0 42), (wholeMembers 5 (bs.drop 42)).bind (readAll calibrationOf) with
    | some v, some calibration =>
      let s := s.modFeeds i fun feeds => Tab.mapIdx (fun f r => { r with calibration := calibration.getD f.val none }) feeds
      .taken (commitSettings s i v)
    | _, _ => .bad

/-- A RENDER record (R38, R191). -/
def takeRender (s : State) (i : ScreenId) (bs : List Byte) : Taking :=
  match takeRowSets bs.length (bs.drop 1) with
  | none => .bad
  | some raw => match judgeRowSets (s.screen i).renderer.table raw with
    | .error _ => .bad
    | .ok t => .taken (commitRender s i t)

/-- A CUES record; the owners of its lines are not judged again (R132, R188, R191). -/
def takeCues (s : State) (i : ScreenId) (bs : List Byte) : Taking :=
  match (wholeMembers 12 (bs.drop 1)).bind (readAll (cueOf fun _ => true)) with
  | none => .bad
  | some cues => if cueRoom s i < cues.length then .unfit else .taken (commitCues s i cues)

/-- The preset of a PRESET record, with PRESET0's commissioned mark and trims (R76, R191). -/
def presetRecordOf (n : PresetId) (bs : List Byte) : Option DeferredPreset :=
  let body := bs.drop 2
  if n == 0 then
    if body.length < 33 then none
    else match presetOf (body.take (body.length - 33)), commissionOf (body.drop (body.length - 33)) with
      | .ok p, some c => some ⟨n, p, c⟩
      | _, _ => none
  else match presetOf body with
    | .ok p => some ⟨n, p, none⟩
    | .error _ => none

/-- Write a PRESET record into the bank; PRESET0 sets the mark and the trims too (R191). -/
def commitPresetRecord (s : State) (i : ScreenId) (d : DeferredPreset) : State :=
  let s := commitPreset s i d.preset d.content
  if d.preset == 0 then s.modEqualiser i fun e => { e with commissioned := d.commissioned } else s

/-- A PRESET record (R65, R191). -/
def takePreset (s : State) (i : ScreenId) (n : PresetId) (bs : List Byte) : Taking :=
  match presetRecordOf n bs with
  | none => .bad
  | some d => .taken (commitPresetRecord s i d)

/-- Take a record into working memory (R188, R191). -/
def takeRecord (stations : State → StationTable → State) (s : State) (r : RecordId) (bs : List Byte) : Taking :=
  match recordName r with
  | .device => takeDevice stations s bs
  | .settings i => takeSettings s i bs
  | .render i => takeRender s i bs
  | .cues i => takeCues s i bs
  | .preset i n => takePreset s i n bs

/-! ### Places (R187, R197) -/

/-- The checksum of a content: its bytes summed modulo 256 (R197). -/
def contentSum (content : List Byte) : Byte := content.foldl (· + ·) 0#8

/-- A place that holds a record, its header as R197 lays it out. -/
def recordPlace (r : RecordId) (content : List Byte) : Place :=
  ⟨0x5A#8, BitVec.ofNat 8 r.val, BitVec.ofNat 16 content.length, contentSum content, content⟩

/-- The record that a place's header names, if its state is RECORD (R188, R197). -/
def Place.names (q : Place) : Option RecordId :=
  if q.state == 0x5A#8 then indexed 29 q.record.toNat else none

/-- The place's content, where its checksum matches (R197). -/
def Place.read (q : Place) : Option (List Byte) :=
  let content := q.content.take q.length.toNat
  if q.length.toNat ≤ q.content.length && contentSum content == q.checksum then some content else none

/-- The place is RETIRED by its header, or treated as such (R190). -/
def placeRetired (s : State) (q : PlaceId) : Bool :=
  Tab.get s.store.retired q || (Tab.get s.store.places q).state == 0x00#8

/-- The home place of a record (R187). -/
def homePlace (r : RecordId) : PlaceId := ⟨r.val, by omega⟩

/-- The map uses the place (R187). -/
def placeMapped (s : State) (q : PlaceId) : Bool := (Tab.list s.store.map).any fun x => x == some q

/-- A spare is free: EMPTY, or a RECORD place that the map does not use (R187). -/
def spareFree (s : State) (q : PlaceId) : Bool := !placeRetired s q && !placeMapped s q

/-- The lowest free spare (R187). -/
def lowestSpare (s : State) : Option PlaceId := [29, 30, 31].find? (spareFree s)

/-- The target place of a record's write (R187). -/
def targetPlace (s : State) (r : RecordId) : Option PlaceId :=
  match Tab.get s.store.map r with
  | some q => some q
  | none => if placeRetired s (homePlace r) then lowestSpare s else some (homePlace r)

def setPlace (s : State) (q : PlaceId) (v : Place) : State :=
  s.modStore fun t => { t with places := Tab.set t.places q v }

def setMap (s : State) (r : RecordId) (q : Option PlaceId) : State :=
  s.modStore fun t => { t with map := Tab.set t.map r q }

def setOp (s : State) (op : StoreOp) : State := s.modStore fun t => { t with op := op }

/-- A store operation is running (R189). -/
def storeBusy (s : State) : Bool := s.store.op != .none

/-! ### Writing (R190) -/

/-- The write of a record begins, its content taken from working memory at this instant (R190). -/
def beginWrite (s : State) (r : RecordId) : Option Writing :=
  (targetPlace s r).map fun q => ⟨r, q, recordContent s r⟩

def targetByte : StoreTarget → List Byte
  | .device => byte 0
  | .screen i => numberByte i

/-- The payload of a STORE's entry (R190). -/
def storePayload (t : StoreTarget) (written : Nat) (retired : List PlaceId) : List Byte :=
  targetByte t ++ byte written ++ listed (fun q => byte q.val) retired

/-- A STORE goes on with the next record, or is complete; a record without a place ends it (R190), with the full payload (log
19). -/
def storeNext (s : State) (ticket : Nat) (t : StoreTarget) (left : List RecordId) (written : Nat)
    (retired : List PlaceId) : State :=
  match left with
  | [] => finishEntry (setOp s .none) ticket .normal .ok (storePayload t written retired)
  | r :: rest =>
    match beginWrite s r with
    | some w => setOp s (.store ticket t w rest written retired false)
    | none => finishEntry (setFaultMark (setOp s .none) r true) ticket .abrupt .storeFault (storePayload t written retired)

/-- A record has been written well: the map gives the place, the fault mark is cleared (R190). -/
def writtenWell (s : State) (w : Writing) : State :=
  setFaultMark (setMap (setPlace s w.place (recordPlace w.record w.bytes)) w.record (some w.place)) w.record false

/-- A place failed its verify: its header is written RETIRED, or keeps showing RECORD where that did not take; the place
leaves the map and is treated as RETIRED from now on (R190).  What the place holds is unknown (log 8), but for the other bytes of
its header, which stay as they were programmed (DESIGN CHOICE, log 9). -/
def retirePlace (s : State) (w : Writing) (took : Bool) : State :=
  let shown := recordPlace w.record w.bytes
  let q : Place :=
    { shown with
      state := if took then 0x00#8 else shown.state
      content := Config.unknownBytes s.freeCount }
  let s := setMap (setPlace { s with freeCount := s.freeCount + 1 } w.place q) w.record none
  s.modStore fun t => { t with retired := Tab.set t.retired w.place true }

/-- A write of STORE completes; without a free spare a record that fails its verify ends with STORE_FAULT under ABORT too, with
the full payload of target, count and retired places (R190; DESIGN CHOICE, log 19). -/
def storeWriteDone (s : State) (ticket : Nat) (t : StoreTarget) (w : Writing) (left : List RecordId) (written : Nat)
    (retired : List PlaceId) (aborting matched took : Bool) : State :=
  if matched then
    let s := writtenWell s w
    if aborting then finishEntry (setOp s .none) ticket .abrupt .ok (storePayload t (written + 1) retired)
    else storeNext s ticket t left (written + 1) retired
  else
    let s := retirePlace s w took
    let retired := retired ++ [w.place]
    match lowestSpare s with
    | some q => setOp s (.store ticket t { w with place := q } left written retired aborting)
    | none =>
      finishEntry (setFaultMark (setOp s .none) w.record true) ticket .abrupt .storeFault (storePayload t written retired)

/-- The write that COMMISSION began completes (R193). -/
def commissionWriteDone (s : State) (w : Writing) (matched took : Bool) : State :=
  if matched then setOp (writtenWell s w) .none
  else
    let s := retirePlace s w took
    match lowestSpare s with
    | some q => setOp s (.commission { w with place := q })
    | none => setFaultMark (setOp s .none) w.record true

/-- A write completes: the verify matched or not, and the retirement header took or not (R190). -/
def storeWriteComplete (s : State) (matched took : Bool) : State :=
  match s.store.op with
  | .store ticket t w left written retired aborting =>
    storeWriteDone s ticket t w left written retired aborting matched took
  | .commission w => commissionWriteDone s w matched took
  | .none => s
  | .recallStored _ _ _ _ _ => s
  | .wipe _ _ _ _ => s

/-- STORE_WRITE_COMPLETE (R190). -/
def execStoreWriteComplete (matched retirementTook : Bool) (s : State) : Host.Outcome State Fault Refusal :=
  .next (whenRunning s fun s => storeWriteComplete s matched retirementTook)

/-- The target that STORE and RECALL name: DEVICE, or a screen (R198). -/
def storeTarget (params : List Byte) : Option StoreTarget :=
  if natField params 0 1 == 0 then some .device else (screenField params 0).map .screen

/-- The port lacks the right that a store target asks for (R176). -/
def targetDenied (s : State) (p : PortId) : StoreTarget → Bool
  | .device => !hasHouseRight s p
  | .screen i => !covers s p i

/-- The two BUSY checks of a long store operation (R189). -/
def storeFull (s : State) : Bool := storeBusy s || !completionFree s

/-- The records of a STORE. -/
def targetRecords : StoreTarget → List RecordId
  | .device => [deviceRecord]
  | .screen i => screenRecords i

/-- STORE (R190). -/
def store (s : State) (p : PortId) (params : List Byte) : Answer :=
  match storeTarget params with
  | none => refuse s .badArgument
  | some t =>
    checked s [(targetDenied s p t, .denied), (s.straps.storeBypass, .wrongState), (storeFull s, .busy)]
      (let ticket := drawTicket s
       ⟨.normal, .accepted, byte ticket, storeNext (takeEntry s p .store) ticket t (targetRecords t) 0 []⟩)

/-- STORE (R190). -/
def execStore (p : PortId) (params : List Byte) (s : State) : Host.Outcome State Fault Refusal :=
  .next (runCommand s p 0x23#8 params (· == 1) fun s => store s p params)

/-! ### RECALL (R191) -/

def RecallOutcome.bytes : RecallOutcome → List Byte
  | .absent => byte 0
  | .bad => byte 1
  | .notApplied => byte 2
  | .applied => byte 3
  | .deferred => byte 4

/-- The payload of a RECALL's entry (R191). -/
def recallPayload (t : StoreTarget) (selector : Nat) (outcomes : List RecallOutcome) : List Byte :=
  targetByte t ++ byte selector ++ listed RecallOutcome.bytes outcomes

/-- The show lock of the screen that a target names. -/
def targetLocked (s : State) : StoreTarget → Bool
  | .device => false
  | .screen i => locked s i

/-- A CUES record of a screen in SHOW is not applied (R191). -/
def cuesInShow (s : State) (r : RecordId) : Bool :=
  match recordName r with
  | .cues i => (s.control i).state == .inShow
  | _ => false

/-- Apply a PRESET record: not where it would unmark a commissioned screen, at the exchange boundary where its preset is being
cut in, else at once (R65, R191). -/
def recallPreset (s : State) (i : ScreenId) (n : PresetId) (bs : List Byte) : Option (State × RecallOutcome) :=
  (presetRecordOf n bs).map fun d =>
    if n == 0 && d.commissioned.isNone && (s.equaliser i).commissioned.isSome then (s, .notApplied)
    else if beingCutIn s i n then (s.modEqualiser i fun e => { e with deferred := some d }, .deferred)
    else (commitPresetRecord s i d, .applied)

/-- Apply a record whose checksum matches; none where its content is no such record (R191).  A CUES record that does not fit the
cue memory sets no fault mark (R187; log 19). -/
def recallApply (s : State) (r : RecordId) (bs : List Byte) : Option (State × RecallOutcome) :=
  match recordName r with
  | .preset i n => recallPreset s i n bs
  | .device | .settings _ | .render _ | .cues _ =>
    if cuesInShow s r then some (s, .notApplied)
    else match takeRecord commitStationTable s r bs with
      | .taken s => some (s, .applied)
      | .unfit => some (s, .notApplied)
      | .bad => none

/-- What a read of RECALL finds: the state and the outcome, or none where the show lock ends the operation (R191). -/
def recallRead (s : State) (t : StoreTarget) (r : RecordId) : Option (State × RecallOutcome) :=
  match (Tab.get s.store.map r).map fun q => (Tab.get s.store.places q).read with
  | none => some (s, .absent)
  | some none => some (setFaultMark s r true, .bad)
  | some (some bs) =>
    if targetLocked s t then none
    else match recallApply s r bs with
      | some x => some x
      | none => some (setFaultMark s r true, .bad)

/-- A read completes (R191). -/
def recallReadComplete (s : State) : State :=
  match s.store.op with
  | .recallStored ticket t selector left outcomes =>
    match left with
    | [] => finishEntry (setOp s .none) ticket .normal .ok (recallPayload t selector outcomes)
    | r :: rest =>
      match recallRead s t r with
      | none => finishEntry (setOp s .none) ticket .abrupt .locked (recallPayload t selector outcomes)
      | some (s, o) =>
        let outcomes := outcomes ++ [o]
        if rest.isEmpty then finishEntry (setOp s .none) ticket .normal .ok (recallPayload t selector outcomes)
        else setOp s (.recallStored ticket t selector rest outcomes)
  | .none => s
  | .store _ _ _ _ _ _ _ => s
  | .commission _ => s
  | .wipe _ _ _ _ => s

/-- RECALL_READ_COMPLETE (R191). -/
def execRecallReadComplete (s : State) : Host.Outcome State Fault Refusal := .next (whenRunning s recallReadComplete)

/-- The records that a RECALL names by its second parameter (R198). -/
def recallRecords (t : StoreTarget) (selector : Nat) : Option (List RecordId) :=
  match t with
  | .device => if selector == 0 then some [deviceRecord] else none
  | .screen i =>
    if selector == 7 then some (screenRecords i) else (indexed 7 selector).map fun k => [screenRecord i k]

/-- RECALL (R191). -/
def recallStored (s : State) (p : PortId) (params : List Byte) : Answer :=
  let selector := natField params 1 1
  match storeTarget params with
  | none => refuse s .badArgument
  | some t => match recallRecords t selector with
    | none => refuse s .badArgument
    | some records =>
      checked s
        [(targetDenied s p t, .denied), (targetLocked s t, .locked), (s.straps.storeBypass, .wrongState),
          (storeFull s, .busy)]
        (let ticket := drawTicket s
         ⟨.normal, .accepted, byte ticket, setOp (takeEntry s p .recallStored) (.recallStored ticket t selector records [])⟩)

/-- RECALL (R191). -/
def execRecall (p : PortId) (params : List Byte) (s : State) : Host.Outcome State Fault Refusal :=
  .next (runCommand s p 0x24#8 params (· == 2) fun s => recallStored s p params)

/-! ### WIPE SCREEN (R192) -/

/-- The erasures go on with the next place, or the operation is complete (R192). -/
def wipeNext (s : State) (ticket : Nat) (i : ScreenId) (left : List (RecordId × PlaceId)) (erased : Nat) : State :=
  match left with
  | [] => finishEntry (setOp s .none) ticket .normal .ok (byte erased)
  | _ :: _ => setOp s (.wipe ticket i left erased)

/-- An erasure completes: the place is EMPTY, the record leaves the map, its fault mark is cleared (R192). -/
def eraseComplete (s : State) : State :=
  match s.store.op with
  | .wipe ticket i left erased =>
    match left with
    | [] => wipeNext s ticket i [] erased
    | (r, q) :: rest =>
      wipeNext (setFaultMark (setMap (setPlace s q .empty) r none) r false) ticket i rest (erased + 1)
  | .none => s
  | .store _ _ _ _ _ _ _ => s
  | .commission _ => s
  | .recallStored _ _ _ _ _ => s

/-- ERASE_COMPLETE (R192). -/
def execEraseComplete (s : State) : Host.Outcome State Fault Refusal := .next (whenRunning s eraseComplete)

/-- The acceptance of WIPE SCREEN: the commissioned mark is cleared, and so are the fault marks of the records that are not in
the map (R192). -/
def beginWipe (s : State) (i : ScreenId) (ticket : Nat) : State :=
  let s := s.modEqualiser i fun e => { e with commissioned := none }
  let s := (screenRecords i).foldl (fun s r =>
    if (Tab.get s.store.map r).isNone then setFaultMark s r false else s) s
  wipeNext s ticket i ((screenRecords i).filterMap fun r => (Tab.get s.store.map r).map fun q => (r, q)) 0

/-- WIPE SCREEN (R192). -/
def wipeScreen (s : State) (p : PortId) (params : List Byte) : Answer :=
  match screenField params 0 with
  | none => refuse s .badArgument
  | some i =>
    checked s
      [(!covers s p i, .denied), ((s.control i).state != .dark, .wrongState), (s.straps.storeBypass, .wrongState),
        (storeFull s, .busy)]
      (let ticket := drawTicket s
       ⟨.normal, .accepted, byte ticket, beginWipe (takeEntry s p .wipeScreen) i ticket⟩)

/-- WIPE_SCREEN (R192). -/
def execWipeScreen (p : PortId) (params : List Byte) (s : State) : Host.Outcome State Fault Refusal :=
  .next (runCommand s p 0x25#8 params (· == 1) fun s => wipeScreen s p params)

/-! ### COMMISSION (R193) -/

/-- The trims of preset 0 of the bank (R76). -/
def referenceTrims (e : Equaliser) : Vector Int 16 := Tab.map FeedEntry.trim (Tab.get e.bank 0)

/-- The mark and the trims are set, and the write of PRESET0 begins (R76, R193). -/
def commissionScreen (s : State) (i : ScreenId) : State :=
  let s := s.modEqualiser i fun e => { e with commissioned := some (referenceTrims e) }
  let r := screenRecord i 3
  match beginWrite s r with
  | some w => setOp s (.commission w)
  | none => setFaultMark s r true

/-- COMMISSION (R193); the sixteen commissioned trims of the payload are a fixed table with no count byte (R198; DESIGN CHOICE, log
12). -/
def commission (s : State) (p : PortId) (params : List Byte) : Answer :=
  match screenField params 0 with
  | none => refuse s .badArgument
  | some i =>
    checked s
      [(!covers s p i, .denied), ((s.control i).state == .inShow, .wrongState), (locked s i, .locked),
        (storeBusy s, .busy), (s.straps.storeBypass, .wrongState)]
      (accept (commissionScreen s i)
        (numberByte i ++ (Tab.list (referenceTrims (s.equaliser i))).flatMap (signedBytes 1)))

/-- COMMISSION (R193). -/
def execCommission (p : PortId) (params : List Byte) (s : State) : Host.Outcome State Fault Refusal :=
  .next (runCommand s p 0x26#8 params (· == 1) fun s => commission s p params)

end Sys2Proof.Machine
end

