-- ==== Sys2Proof/Machine/Ports.lean ====
section
/-!
DEFINITION. The control ports (spec/10): windows and phases, PORT RESET, staging, the completion table; the rows COMMAND_PHASE_END,
RESULT_WINDOW, EXECUTE_WINDOW, PORT_RESET, INVALID_OPCODE, OPEN_LOAD, PARCEL, COLLECT and ABORT.
-/

namespace Sys2Proof.Machine

/-! ### Windows (R172 to R174) -/

/-- The bytes shifted out of a port in a window of `n` bytes in: the status byte, then by the phase in which the window began
status bytes that show COMMAND, bytes no rule states, or the result record and zeros (R172, R174). -/
def windowOut (s : State) (p : PortId) (n : Nat) : List Byte :=
  let q := s.port p
  match q.phase with
  | .ready => statusByte s p .ready :: List.replicate (n - 1) (statusByte s p .command)
  | .command => statusByte s p .command :: List.replicate (n - 1) (statusByte s p .command)
  | .execute => statusByte s p .execute :: (List.range (n - 1)).map fun k => Config.unstatedByte (s.freeCount + k)
  | .result =>
    let record := (q.result.map ResultRecord.bytes).getD []
    statusByte s p .result :: (record ++ List.replicate n 0#8).take (n - 1)

/-- The window's bytes out are those last shifted out of the port. -/
def shiftOut (s : State) (p : PortId) (n : Nat) : State :=
  let out := windowOut s p n
  let used := if (s.port p).phase == .execute then n - 1 else 0
  { s.modPort p fun q => { q with dataOut := out } with freeCount := s.freeCount + used }

/-- The port after PORT RESET: staging and result discarded, READY (R185).  A command whose execution was still to come is not
executed (log 7). -/
def Port.afterReset (q : Port) : Port := { q with phase := .ready, command := [], result := none, staging := .closed }

/-- A window's first byte in is the PORT RESET opcode (R185). -/
def asksReset (bytes : List Byte) : Bool := bytes.head? == some 0xFF#8

/-- A window that begins in READY ends: no whole byte changes nothing, PORT RESET resets, any other byte puts the port into
EXECUTE with the window's bytes (R172, R173). -/
def endCommandPhase (s : State) (p : PortId) (bytes : List Byte) : State :=
  let s := shiftOut s p bytes.length
  if bytes.isEmpty then s
  else if asksReset bytes then s.modPort p Port.afterReset
  else s.modPort p fun q => { q with phase := .execute, command := bytes }

/-- COMMAND_PHASE_END (R173). -/
def execCommandPhaseEnd (p : PortId) (bytes : List Byte) (s : State) : Host.Outcome State Fault Refusal :=
  .next (whenRunning s fun s => match (s.port p).phase with
    | .ready => endCommandPhase s p bytes
    | .command => endCommandPhase s p bytes
    | .execute => s
    | .result => s)

/-- A result window ends: the result is consumed and the port is READY (R174). -/
def endResultWindow (s : State) (p : PortId) (bytes : List Byte) : State :=
  let s := shiftOut s p bytes.length
  if asksReset bytes then s.modPort p Port.afterReset
  else s.modPort p fun q => { q with phase := .ready, result := none }

/-- RESULT_WINDOW (R174). -/
def execResultWindow (p : PortId) (bytes : List Byte) (s : State) : Host.Outcome State Fault Refusal :=
  .next (whenRunning s fun s => if (s.port p).phase == .result then endResultWindow s p bytes else s)

/-- A window that begins in EXECUTE leaves the phase as it is (R174). -/
def endExecuteWindow (s : State) (p : PortId) (bytes : List Byte) : State :=
  let s := shiftOut s p bytes.length
  if asksReset bytes then s.modPort p Port.afterReset else s

/-- EXECUTE_WINDOW (R174). -/
def execExecuteWindow (p : PortId) (bytes : List Byte) (s : State) : Host.Outcome State Fault Refusal :=
  .next (whenRunning s fun s => if (s.port p).phase == .execute then endExecuteWindow s p bytes else s)

/-- PORT_RESET, in whatever phase its window begins; the bytes after the opcode are ignored (R185). -/
def execPortReset (p : PortId) (rest : List Byte) (s : State) : Host.Outcome State Fault Refusal :=
  .next (whenRunning s fun s => (shiftOut s p (rest.length + 1)).modPort p Port.afterReset)

/-- An opcode that names no command (R173, R198). -/
def namesNoCommand (opcode : Byte) : Bool :=
  match decodeOpcode 0 opcode [] with
  | .invalidOpcode _ _ _ => true
  | _ => false

/-- INVALID_OPCODE (R173). -/
def execInvalidOpcode (p : PortId) (opcode : Byte) (params : List Byte) (s : State) : Host.Outcome State Fault Refusal :=
  .next (whenRunning s fun s =>
    if executing s p opcode params && namesNoCommand opcode then
      placeResult s p ((refuse s .invalidOpcode).record opcode)
    else s)

/-! ### Staging (R177) -/

/-- OPEN LOAD (R177). -/
def openLoad (s : State) (p : PortId) (params : List Byte) : Answer :=
  match targetOfCode (natField params 0 1) with
  | none => refuse s .badArgument
  | some t => accept (s.modPort p fun q => { q with staging := .opened t [] 0 }) []

/-- OPEN_LOAD (R177). -/
def execOpenLoad (p : PortId) (params : List Byte) (s : State) : Host.Outcome State Fault Refusal :=
  .next (runCommand s p 0x20#8 params (· == 1) fun s => openLoad s p params)

/-- Staging after a parcel (R177). -/
def Staging.append (data : List Byte) : Staging → Staging
  | .closed => .closed
  | .opened t bytes sent =>
    let sent := min 65535 (sent + data.length)
    if bytes.length + data.length ≤ 4096 then .opened t (bytes ++ data) sent else .overflowed t sent
  | .overflowed t sent => .overflowed t (min 65535 (sent + data.length))

/-- The staging state and the bytes sent, as the payload of PARCEL gives them (R177, R198). -/
def Staging.report : Staging → List Byte
  | .closed => byte 0 ++ bytesOf 2 0
  | .opened _ _ sent => byte 1 ++ bytesOf 2 sent
  | .overflowed _ sent => byte 2 ++ bytesOf 2 sent

/-- PARCEL (R177). -/
def parcel (s : State) (p : PortId) (params : List Byte) : Answer :=
  let new := (s.port p).staging.append params
  checked s [((s.port p).staging == .closed, .wrongState)]
    (accept (s.modPort p fun q => { q with staging := new }) new.report)

/-- PARCEL (R177). -/
def execParcel (p : PortId) (params : List Byte) (s : State) : Host.Outcome State Fault Refusal :=
  .next (runCommand s p 0x21#8 params (fun n => 1 ≤ n && n ≤ 32) fun s => parcel s p params)

/-! ### COLLECT (R182) -/

/-- The DONE entries of a port, with what they hold. -/
def doneEntries (s : State) (p : PortId) : List (Entry × Completed) :=
  s.completions.entries.filterMap fun e => if e.owner == p then e.done.map fun d => (e, d) else none

/-- Of two DONE entries, the one that became DONE first (R182). -/
def earlier (a b : Entry × Completed) : Entry × Completed := if b.2.order < a.2.order then b else a

/-- The port's DONE entry that became DONE first (R182). -/
def earliestDone (s : State) (p : PortId) : Option (Entry × Completed) :=
  match doneEntries s p with
  | [] => none
  | e :: rest => some (rest.foldl earlier e)

def OperationKind.code : OperationKind → Nat
  | .calibrate _ _ => 0
  | .selectPreset => 1
  | .store => 2
  | .recallStored => 3
  | .wipeScreen => 4

/-- A collected entry as the payload gives it (R182, R198). -/
def collectedBytes (x : Entry × Completed) : List Byte :=
  byte x.1.ticket ++ byte x.1.kind.code ++ byte (terminationCode x.2.termination) ++ byte (reasonCode x.2.reason)
    ++ x.2.payload

/-- Remove the entry of a ticket from the completion table (R181). -/
def freeEntry (s : State) (ticket : Nat) : State :=
  s.withCompletions { s.completions with entries := s.completions.entries.filter fun e => e.ticket != ticket }

/-- COLLECT (R182).  R182 gives no form for a payload that says none: the whole entry is one item behind one presence byte, 1 and
then the ticket, kind, termination, reason and payload, or 0 alone for none (DESIGN CHOICE, log 12). -/
def collect (s : State) (p : PortId) : Answer :=
  match earliestDone s p with
  | none => accept s (byte 0)
  | some x => accept (freeEntry s x.1.ticket) (byte 1 ++ collectedBytes x)

/-- COLLECT (R182). -/
def execCollect (p : PortId) (params : List Byte) (s : State) : Host.Outcome State Fault Refusal :=
  .next (runCommand s p 0x0B#8 params (· == 0) fun s => collect s p)

/-! ### ABORT (R183) -/

/-- The screen in whose pending place the request of a ticket waits (R73). -/
def pendingScreen (s : State) (ticket : Nat) : Option ScreenId :=
  screenIds.find? fun i => match (s.equaliser i).pending with
    | some r => r.origin == .command ticket
    | none => false

/-- A request is taken out of the pending place by ABORT (R73). -/
def abortPending (s : State) (i : ScreenId) : State :=
  match (s.equaliser i).pending with
  | some r => endPending (s.modEqualiser i fun e => { e with pending := none }) r .aborted
  | none => s

/-- The STORE running is to stop after the record being written (R190). -/
def abortStore (s : State) : State :=
  match s.store.op with
  | .store ticket t w left written retired _ => setOp s (.store ticket t w left written retired true)
  | .none => s
  | .commission _ => s
  | .recallStored _ _ _ _ _ => s
  | .wipe _ _ _ _ => s

/-- The payload of ABORT: the ticket, and whether the entry is DONE at the answer (R183). -/
def abortPayload (ticket : Nat) (done : Bool) : List Byte := byte ticket ++ flagByte done

/-- End a RUNNING operation that can be aborted (R183). -/
def abortRunning (s : State) (e : Entry) : Answer :=
  match e.kind with
  | .calibrate _ _ => accept (endRequests s (fun r => r.ticket == e.ticket) .ok) (abortPayload e.ticket true)
  | .selectPreset => match pendingScreen s e.ticket with
    | some i => accept (abortPending s i) (abortPayload e.ticket true)
    | none => refuse s .tooLate
  | .store => accept (abortStore s) (abortPayload e.ticket false)
  | .recallStored => refuse s .badArgument
  | .wipeScreen => refuse s .badArgument

/-- ABORT (R183). -/
def abort (s : State) (p : PortId) (params : List Byte) : Answer :=
  match findEntry s (natField params 0 1) with
  | none => refuse s .noSuchTicket
  | some e =>
    checked s
      [(e.owner != p && !hasHouseRight s p, .denied), (e.kind == .recallStored || e.kind == .wipeScreen, .badArgument),
        (e.done.isSome, .tooLate)]
      (abortRunning s e)

/-- ABORT (R183). -/
def execAbort (p : PortId) (params : List Byte) (s : State) : Host.Outcome State Fault Refusal :=
  .next (runCommand s p 0x1F#8 params (· == 1) fun s => abort s p params)

end Sys2Proof.Machine
end

