-- ==== Sys2Proof/Machine/Reads.lean ====
section
/-!
DEFINITION. The reading commands, their payloads in the layouts of R198 (log 12): READ_SCREEN, READ_METERS, READ_FEED,
READ_ALARMS, READ_CUES, LOCATE, READ_LOOP, READ_POOL and READ_NOTICE.
-/

namespace Sys2Proof.Machine

/-! ### READ SCREEN (R17, R39, R121, R148) -/

def streamStateCode : StreamState → Nat
  | .absent => 0
  | .search => 1
  | .verify => 2
  | .locked => 3
  | .holdover => 4

/-- A code item. -/
def finByte {k : Nat} (n : Fin k) : List Byte := byte n.val

/-- The stream part: the offset as R12 presents it, 0 outside the locked stream; no position while a free-running block renders
between a lock and the first aligned boundary (R17; log 21).  After a loss by absence the position stays until the block of loss
has been rendered: R4 marks it as not valid on entry to ABSENT, R10 only from the boundary after that block, and the model follows
R10 (DESIGN CHOICE, log 21). -/
def streamPart (l : Lane) : List Byte :=
  byte (streamStateCode l.stream) ++ byte l.missCount
    ++ optional byte (if l.isLocked then l.expected else none)
    ++ optional (bytesOf 3) (l.rendering.report.map Report.position)
    ++ finByte l.format ++ optional finByte l.formatCandidate ++ flagByte l.formatUnknown
    ++ signedBytes 2 (if l.isLocked then l.heldOffset else 0) ++ bytesOf 2 l.heldMask.toNat

def rampCode : RampState → Nat
  | .steady => 0
  | .rampOut => 1
  | .rampIn => 2

/-- The effective format: code 0 to 6, 7 for NS, or none (R39). -/
def formatItem : RenderFormat → Option Nat
  | .none => Option.none
  | .program c => some c.val
  | .ns => some 7

/-- The surround filter: HELD is followed by its two slots, with no presence byte (R39; DESIGN CHOICE, log 12). -/
def filterBytes : SurroundFilter → List Byte
  | .held c1 c2 => byte 0 ++ bytesOf 2 c1.val ++ bytesOf 2 c2.val
  | .short => byte 1
  | .notHeld => byte 2

/-- The render part (R39). -/
def renderPart (c : Screen) : List Byte :=
  let r := c.renderer
  byte (sourceCode r.selected) ++ byte (sourceCode (fallbackSource c)) ++ byte (sourceCode r.current.source)
    ++ optional byte (formatItem r.current.format) ++ byte (rampCode r.ramp) ++ filterBytes r.filter
    ++ bytesOf 2 c.settings.surroundDelay ++ byte (termCount r.table)
    ++ listed (fun x => numberByte x.1 ++ numberByte x.2) (reroutes r)

/-- The state of a request at a place of the queue: WAITING, STARTING or SWEEPING (R109). -/
def requestStateCode (place : Nat) (r : CalRequest) : Nat :=
  if place == 0 then (if r.tone.isSome then 2 else 1) else 0

/-- The calibration part (R121). -/
def calibrationPart (s : State) (i : ScreenId) : List Byte :=
  let requests := s.calibration.zipIdx.filter fun x => x.1.screen == i
  let tone := (s.calibration.head?.filter fun r => r.screen == i).bind CalRequest.tone
  listed (fun x => byte x.1.ticket ++ byte (x.2 + 1) ++ byte (requestStateCode x.2 x.1) ++ maskBytes x.1.mask) requests
    ++ optional (fun t => numberByte t.feed ++ signedBytes 2 (stepLevel t.step) ++ byte t.block) tone
    ++ flagByte (calibrationRuns s i)

/-- A running fade's target and the blocks that remain (R148). -/
def fadeItem : FaderMove → Option (Int × Nat)
  | .fade _ target d k => some (target, d - k)
  | .setNext _ => none
  | .hold => none

def clockCode : ShowClock → Nat
  | .none => 0
  | .waiting => 1
  | .tracking _ => 2
  | .freeRun _ _ => 3
  | .frozen _ => 4

/-- The free-run count of a clock in FREE_RUN (R148). -/
def freeRunItem : ShowClock → Option Nat
  | .freeRun _ n => some n
  | .none => Option.none
  | .waiting => Option.none
  | .tracking _ => Option.none
  | .frozen _ => Option.none

/-- The index of the next enabled untaken cue in list order (R148). -/
def nextCue (cues : List Cue) : Option Nat := cues.findIdx? fun q => q.enabled && !q.taken

/-- The show part (R148).  A running fade's target and blocks remaining are one item with one presence byte (DESIGN CHOICE,
log 12). -/
def showPart (c : Screen) : List Byte :=
  let k := c.control
  let set := c.settings
  byte (screenStateCode k.state) ++ flagByte k.sleepHeld
    ++ signedBytes 2 k.fader ++ optional (fun x => signedBytes 2 x.1 ++ bytesOf 2 x.2) (fadeItem k.move)
    ++ flagByte k.lock
    ++ byte (clockCode k.clock) ++ optional (bytesOf 3) k.clock.position ++ optional (bytesOf 2) (freeRunItem k.clock)
    ++ flagByte k.suspension.isSome ++ optional (bytesOf 3) (k.suspension.getD none)
    ++ flagByte k.evacuationMute
    ++ optional Opening.bytes k.opening
    ++ bytesOf 2 k.cues.length ++ bytesOf 2 (k.cues.filter Cue.taken).length ++ optional byte (nextCue k.cues)
    ++ byte (match set.powerOnState with
      | .dark => 0
      | .idle => 1)
    ++ flagByte set.autoStart ++ flagByte set.autoEnd ++ flagByte set.lockAtStart ++ bytesOf 2 set.freeRunLimit

/-- READ SCREEN (R148). -/
def readScreen (s : State) (params : List Byte) : Answer :=
  match screenField params 0 with
  | none => refuse s .badArgument
  | some i =>
    let c := s.screen i
    accept s (streamPart c.lane ++ renderPart c ++ calibrationPart s i ++ showPart c)

/-- READ_SCREEN (R148). -/
def execReadScreen (p : PortId) (params : List Byte) (s : State) : Host.Outcome State Fault Refusal :=
  .next (runCommand s p 0x01#8 params (· == 1) fun s => readScreen s params)

/-! ### READ METERS (R106) -/

/-- One feed's meters (R106). -/
def Feed.meterBytes (r : Feed) : List Byte :=
  signedBytes 2 (powerReport r.lastMean) ++ signedBytes 2 (peakReport r.lastPeak) ++ signedBytes 2 (peakReport r.peakHold)
    ++ bytesOf 2 r.clipsSinceRead

/-- The governor items (R106). -/
def Governor.bytes (g : Governor) : List Byte :=
  signedBytes 1 g.ceiling ++ flagByte (g.ceiling < 0) ++ byte g.completed ++ bytesOf 6 g.windowSum

/-- READ METERS empties the peak hold and the clips since read (R106). -/
def Feed.emptied (r : Feed) : Feed := { r with peakHold := 0, clipsSinceRead := 0 }

/-- READ METERS (R106); the meters of the sixteen feeds are a fixed table with no count byte (DESIGN CHOICE, log 12). -/
def readMeters (s : State) (params : List Byte) : Answer :=
  match screenField params 0 with
  | none => refuse s .badArgument
  | some i =>
    let c := s.screen i
    accept (s.modFeeds i fun v => Tab.map Feed.emptied v)
      ((Tab.list c.feeds).flatMap Feed.meterBytes ++ c.governor.bytes)

/-- READ_METERS (R106). -/
def execReadMeters (p : PortId) (params : List Byte) (s : State) : Host.Outcome State Fault Refusal :=
  .next (runCommand s p 0x02#8 params (· == 1) fun s => readMeters s params)

/-! ### READ FEED (R105) -/

/-- The items of the feed record; Tcal and Scal are one item, with one presence byte (R81, R105; log 12). -/
def Feed.recordBytes (r : Feed) (fitted : Bool) : List Byte :=
  byte r.dead.toNat ++ flagByte r.hot ++ flagByte r.overLevel ++ flagByte r.clip
    ++ byte r.deadCount ++ byte r.hotCount ++ byte r.coolCount ++ byte r.overCount ++ byte r.underCount
    ++ byte r.clipFreeCount ++ flagByte fitted
    ++ (match r.calibration with
      | some (tcal, scal) => byte 0 ++ optional (fun x => signedBytes 2 x.1 ++ bytesOf 2 x.2) (some (tcal, scal))
      | none => byte 1 ++ byte 0)
    ++ optional (bytesOf 2) r.lastSense

/-- The trim and delay of a record. -/
def FeedRecord.bytes (r : FeedRecord) : List Byte := signedBytes 1 r.trim ++ bytesOf 2 r.delay

/-- The feed as READ FEED gives it; the incoming trim and delay are one item, with one presence byte (R105; log 12). -/
def feedBytes (c : Screen) (f : FeedId) : List Byte :=
  let r := Tab.get c.feeds f
  let running := Tab.get c.equaliser.running f
  let cover := Tab.get c.settings.cover f
  r.recordBytes (c.settings.senseFitted.getLsbD f.val) ++ optional (bytesOf 2) r.latest
    ++ running.bytes ++ byte running.chain.length
    ++ optional (fun v => (Tab.get v f).bytes) c.equaliser.incoming
    ++ optional numberByte cover ++ flagByte ((reroutes c.renderer).any fun x => x.1 == f && cover == some x.2)

/-- READ FEED (R105). -/
def readFeed (s : State) (params : List Byte) : Answer :=
  match screenField params 0, feedField params 1 with
  | some i, some f => accept s (feedBytes (s.screen i) f)
  | _, _ => refuse s .badArgument

/-- READ_FEED (R105). -/
def execReadFeed (p : PortId) (params : List Byte) (s : State) : Host.Outcome State Fault Refusal :=
  .next (runCommand s p 0x03#8 params (· == 2) fun s => readFeed s params)

/-! ### READ ALARMS (R104) -/

def alarmStateCode : AlarmState → Nat
  | .raised => 0
  | .held => 1
  | .ended => 2

/-- A record with its place (R104); its scope is given as the two scope bytes that ACK ALARM takes, with no byte for the class, which
the kind fixes (R198; DESIGN CHOICE, log 12). -/
def placedBytes (x : AlarmRecord × Nat) : List Byte :=
  byte x.2 ++ byte (alarmKindCode x.1.kind) ++ scopeBytes x.1.scope ++ byte (alarmStateCode x.1.state)
    ++ bytesOf 4 x.1.firstRaised.toNat ++ bytesOf 4 x.1.lastChange.toNat ++ byte x.1.count

/-- The records with their places: the ordinary ones from 0, OVERFLOW's at 63 (R104). -/
def AlarmTable.placed (t : AlarmTable) : List (AlarmRecord × Nat) :=
  t.ordinary.zipIdx ++ (t.overflow.map fun r => (r, 63)).toList

/-- READ ALARMS (R104). -/
def readAlarms (s : State) (params : List Byte) : Answer :=
  let start := natField params 0 1
  if 63 < start then refuse s .badArgument
  else
    accept s (byte s.alarms.ordinary.length ++ flagByte s.alarms.overflowStands
      ++ listed placedBytes ((s.alarms.placed.filter fun x => start ≤ x.2).take 16))

/-- READ_ALARMS (R104). -/
def execReadAlarms (p : PortId) (params : List Byte) (s : State) : Host.Outcome State Fault Refusal :=
  .next (runCommand s p 0x04#8 params (· == 1) fun s => readAlarms s params)

/-! ### READ CUES and LOCATE (R133) -/

/-- The arguments of a cue by its kind (R131). -/
def argumentBytes : CueAction → List Byte
  | .fade target d => signedBytes 2 target ++ bytesOf 2 d
  | .preset n => byte n.val
  | .source v => byte (sourceCode v)
  | .lineSet l => numberByte l
  | .lineClear l => numberByte l
  | .linePulse l d => numberByte l ++ bytesOf 2 d
  | .order address code argument => byte address ++ byte code ++ bytesOf 2 argument
  | .lock on => flagByte on

def outcomeCode : CueOutcome → Nat
  | .none => 0
  | .done => 1
  | .pending => 2
  | .delivered => 3
  | .failedPool => 4
  | .failedQueue => 5
  | .failedStation => 6

/-- A cue with its index (R133). -/
def cueBytes (x : Cue × Nat) : List Byte :=
  byte x.2 ++ bytesOf 3 x.1.time ++ byte (cueKindCode x.1.action) ++ argumentBytes x.1.action ++ flagByte x.1.enabled
    ++ flagByte x.1.taken ++ byte (outcomeCode x.1.outcome)

/-- READ CUES (R133). -/
def readCues (s : State) (params : List Byte) : Answer :=
  match screenField params 0 with
  | none => refuse s .badArgument
  | some i =>
    let cues := (s.control i).cues
    accept s (bytesOf 2 cues.length ++ bytesOf 2 (freeCues s)
      ++ listed cueBytes ((cues.zipIdx.drop (natField params 1 1)).take 16))

/-- READ_CUES (R133). -/
def execReadCues (p : PortId) (params : List Byte) (s : State) : Host.Outcome State Fault Refusal :=
  .next (runCommand s p 0x06#8 params (· == 2) fun s => readCues s params)

/-- The modes of LOCATE (R133). -/
inductive LocateMode where
  | equal | atOrBefore | atOrAfter
deriving DecidableEq, Repr

def modeOfCode (n : Nat) : Option LocateMode :=
  match n with
  | 0 => some .equal
  | 1 => some .atOrBefore
  | 2 => some .atOrAfter
  | _ => none

/-- The cue that LOCATE finds, with its index (R133). -/
def locateCue (cues : List Cue) (mode : LocateMode) (t : Nat) : Option (Cue × Nat) :=
  match mode with
  | .equal => cues.zipIdx.find? fun x => x.1.time == t
  | .atOrBefore => cues.zipIdx.reverse.find? fun x => decide (x.1.time ≤ t)
  | .atOrAfter => cues.zipIdx.find? fun x => decide (t ≤ x.1.time)

/-- LOCATE (R133); the index and the time of the cue found are one item with one presence byte, 0 alone for NONE (DESIGN CHOICE,
log 12). -/
def locate (s : State) (params : List Byte) : Answer :=
  match screenField params 0, modeOfCode (natField params 1 1) with
  | some i, some mode =>
    accept s (optional (fun x => byte x.2 ++ bytesOf 3 x.1.time) (locateCue (s.control i).cues mode (natField params 2 3)))
  | _, _ => refuse s .badArgument

/-- LOCATE (R133). -/
def execLocate (p : PortId) (params : List Byte) (s : State) : Host.Outcome State Fault Refusal :=
  .next (runCommand s p 0x07#8 params (· == 5) fun s => locate s params)

/-! ### READ LOOP (R164) -/

/-- The type code and the address of a frame (R164, R196). -/
def LoopFrame.summary : LoopFrame → List Byte
  | .order k _ _ _ _ => byte 1 ++ numberByte k
  | .broadcast address _ _ _ => byte 2 ++ byte address
  | .probe k => byte 3 ++ numberByte k
  | .restart k => byte 4 ++ numberByte k

/-- The loop state: SENDING is followed by its frame and AWAITING by its station, with no presence byte (R164; DESIGN CHOICE,
log 12). -/
def LoopState.bytes : LoopState → List Byte
  | .free => byte 0
  | .sending f => byte 1 ++ f.summary
  | .awaiting k _ => byte 2 ++ numberByte k

def OrderOrigin.bytes : OrderOrigin → List Byte
  | .cue ref => byte 0 ++ numberByte ref.screen ++ byte ref.index
  | .port p => byte 1 ++ numberByte p

/-- The form of a queued order, by its frame type code, with its address (R164, R196). -/
def OrderForm.bytes : OrderForm → List Byte
  | .order k => byte 1 ++ numberByte k
  | .broadcast address => byte 2 ++ byte address

def Order.bytes (o : Order) : List Byte := o.form.bytes ++ byte o.code ++ bytesOf 2 o.argument ++ o.origin.bytes

def EvacOrder.bytes (o : EvacOrder) : List Byte := byte o.address ++ byte o.code ++ bytesOf 2 o.argument

def Outstanding.bytes (o : Outstanding) : List Byte :=
  byte o.number ++ byte o.code ++ bytesOf 2 o.argument ++ o.origin.bytes

def stationStateCode : StationState → Nat
  | .absent => 0
  | .joining => 1
  | .up => 2
  | .busy => 3
  | .down => 4

/-- A due frame, by its frame type code (R164, R196). -/
def FrameDue.bytes : FrameDue → List Byte
  | .probe => byte 3
  | .restart => byte 4

/-- A station record; the resend position is the place in the outstanding list, counted from 0 (R153, R164; log 12). -/
def Station.bytes (r : Station) : List Byte :=
  byte (stationStateCode r.state) ++ byte r.next ++ byte r.oldest ++ listed Outstanding.bytes r.outstanding
    ++ optional byte r.resend ++ byte r.retry ++ optional byte r.zone ++ flagByte r.fault
    ++ optional FrameDue.bytes r.due

/-- READ LOOP (R164); the number of orders of the transmit queue is given once, as the count byte that R198 puts before the list
of orders, and the eight station records, a fixed table, have no count byte (DESIGN CHOICE, log 12). -/
def readLoop (s : State) : Answer :=
  let l := s.loop
  accept s (l.state.bytes ++ listed Order.bytes l.queue ++ optional EvacOrder.bytes l.evacuationSlot
    ++ flagByte l.congested ++ byte l.table.replyTimeout ++ byte l.table.retryLimit
    ++ optional EvacOrder.bytes l.table.evacuation ++ (Tab.list l.stations).flatMap Station.bytes)

/-- READ_LOOP (R164). -/
def execReadLoop (p : PortId) (params : List Byte) (s : State) : Host.Outcome State Fault Refusal :=
  .next (runCommand s p 0x08#8 params (· == 0) readLoop)

/-! ### READ POOL (R79) -/

/-- The switch state, with the preset being activated behind a presence byte (R79; DESIGN CHOICE, log 12). -/
def Switch.bytes : Switch → List Byte
  | .none => byte 0 ++ byte 0
  | .crossfade r => byte 1 ++ byte 1 ++ byte r.preset.val
  | .cutOut r _ => byte 2 ++ byte 1 ++ byte r.preset.val
  | .cutIn r => byte 3 ++ byte 1 ++ byte r.preset.val

/-- A pending request: the preset number and the origin; the ticket of a COMMAND origin has no presence byte (R79; log 12). -/
def Request.bytes (r : Request) : List Byte :=
  byte r.preset.val ++ (match r.origin with
    | .command t => byte 0 ++ byte t
    | .cue _ => byte 1
    | .openingReturn => byte 1)

/-- The slots held: by active chains, by incoming chains, by the surround filter (R79). -/
def heldBytes (c : Screen) : List Byte :=
  byte (recordSlots c.equaliser.running).length
    ++ byte (((c.equaliser.incoming.map recordSlots).getD []).length)
    ++ byte (filterSlots c.renderer.filter).length

/-- READ POOL: each item for the four screens in turn (R79); the screens and the section counts of the feeds are fixed tables with no
count byte (DESIGN CHOICE, log 12). -/
def readPool (s : State) : Answer :=
  let each (item : Screen → List Byte) : List Byte := (Tab.list s.screens).flatMap item
  accept s (bytesOf 2 s.pool.free.length ++ bytesOf 2 (claimedCount s) ++ bytesOf 2 (availableCount s)
    ++ each (fun c => byte c.equaliser.active.val)
    ++ each (fun c => c.equaliser.switch.bytes)
    ++ each (fun c => optional Request.bytes c.equaliser.pending)
    ++ each heldBytes
    ++ each (fun c => (Tab.list c.equaliser.running).flatMap fun r => byte r.chain.length)
    ++ each (fun c => flagByte c.equaliser.commissioned.isSome)
    ++ each (fun c => flagByte c.equaliser.poolShort))

/-- READ_POOL (R79). -/
def execReadPool (p : PortId) (params : List Byte) (s : State) : Host.Outcome State Fault Refusal :=
  .next (runCommand s p 0x09#8 params (· == 0) readPool)

/-! ### READ NOTICE (R16) -/

def FormatChange.bytes (c : FormatChange) : List Byte := finByte c.old ++ finByte c.new ++ bytesOf 3 c.position

def noticeCountCode : NoticeCount → Nat
  | .zero => 0
  | .one => 1
  | .two => 2
  | .more => 3

/-- A notice as it stands (R16); the more flag is one byte, set or clear, with no presence byte, at every count (DESIGN CHOICE, log
12). -/
def Notice.bytes (n : Notice) : List Byte :=
  byte (noticeCountCode n.count) ++ optional FormatChange.bytes n.first ++ optional FormatChange.bytes n.latest
    ++ flagByte n.more

/-- READ NOTICE returns the notice and empties it (R16). -/
def readNotice (s : State) (params : List Byte) : Answer :=
  match screenField params 0 with
  | none => refuse s .badArgument
  | some i => accept (s.modLane i fun l => { l with notice := .empty }) (s.screen i).lane.notice.bytes

/-- READ_NOTICE (R16). -/
def execReadNotice (p : PortId) (params : List Byte) (s : State) : Host.Outcome State Fault Refusal :=
  .next (runCommand s p 0x0A#8 params (· == 1) fun s => readNotice s params)

end Sys2Proof.Machine
end

