-- ==== Sys2Proof/Machine/Sample.lean ====
section
/-!
DEFINITION. The row SAMPLE_PERIOD: one period of the house word clock on all lanes and all four signal paths (R1, R18, R20 to R25,
R43 to R54, R112).
-/

namespace Sys2Proof.Machine

/-! ### The channels presented (R2, R13, R18, R20) -/

/-- The frame of the held program block that is rendered now: that of 480 sample periods before, masked; zero outside the
locked stream and the block of loss (R2, R10, R13). -/
def programChannel (l : Lane) (c : ChannelId) : Int :=
  if l.rendering.report.isSome && l.rendering.mask.getLsbD c.val then
    match l.hold[479]? with
    | some frame => (Tab.get frame c).toInt
    | none => 0
  else 0

/-- A channel of the non-sync source: NS-L is C1, NS-R is C2, the others are zero (R18, R20). -/
def nonSyncChannel (n : NonSync) (c : ChannelId) : Int :=
  let pair := n.hold.getD 479 (0#24, 0#24)
  match c.val with
  | 0 => pair.1.toInt
  | 1 => pair.2.toInt
  | _ => 0

/-- The channels that the renderer reads for this sample (R20). -/
def presented (s : State) (i : ScreenId) (c : ChannelId) : Int :=
  match (s.screen i).renderer.current.source with
  | .program => programChannel (s.screen i).lane c
  | .nonsync => nonSyncChannel s.nonSync c
  | .mute => 0

/-! ### The surround filter (R25) -/

/-- The filtered C1 and C2 of a sample with the clip of each section, and the slots moved on; none where no filter is held or
MATRIX is not rendered (R25). -/
def runFilter (s : State) (i : ScreenId) : Vector Biquad 384 × Option ((Int × Int) × Bool × Bool) :=
  let r := (s.screen i).renderer
  match r.filter, r.current.isMatrix with
  | .held c1 c2, true =>
    let (q1, y1, clip1) := (Tab.get s.pool.slots c1).run (presented s i 0)
    let slots := Tab.set s.pool.slots c1 q1
    let (q2, y2, clip2) := (Tab.get slots c2).run (presented s i 1)
    (Tab.set slots c2 q2, some ((y1, y2), clip1, clip2))
  | _, _ => (s.pool.slots, none)

/-- The clip events of the filter sections that a feed reads (R25, R53). -/
def filterClips (rows : Option RowSet) (cover : Cover) (f : FeedId) (clips : Option (Bool × Bool)) : Nat :=
  match rows, clips with
  | some rows, some (clip1, clip2) =>
    (clip1 && feedReadsFiltered rows cover f true).toNat + (clip2 && feedReadsFiltered rows cover f false).toNat
  | _, _ => 0

/-! ### One feed (R43 to R50) -/

/-- What the stages of one feed give for a sample: the slots after it, its output and its clip events. -/
structure FeedOutput where
  slots : Vector Biquad 384
  out : Int
  clips : Nat

/-- The level and equaliser stages of one path: delay, level, chain (R44, R46, R48). -/
def runPath (c : Screen) (f : FeedId) (slots : Vector Biquad 384) (r : Int) (record : FeedRecord) (trim : Int) :
    FeedOutput :=
  let x := delayRead (Tab.get c.path.feeds f).memory r (pathDelay c.renderer.current f record.delay)
  let (v, levelClip) := levelStage (feedLevel c.path.levels trim (Tab.get c.path.levels.hot f)) x
  let (slots, y, clips) := runChain slots record.chain v
  ⟨slots, y, clips + levelClip.toNat⟩

/-- The level, equaliser and output stages of a feed whose screen gate is not CLOSED, in a crossfade block on both paths
(R46 to R51). -/
def runStages (c : Screen) (f : FeedId) (slots : Vector Biquad 384) (r : Int) : FeedOutput :=
  let e := c.equaliser
  let n := c.path.index
  let factors := outputFactors c (Tab.get c.path.feeds f).deadGate n
  let old := runPath c f slots r (Tab.get e.running f) (Tab.get c.path.levels.trims f)
  match e.incoming with
  | none => ⟨old.slots, outputStage factors n old.out none, old.clips⟩
  | some records =>
    let new := runPath c f old.slots r (Tab.get records f) (Tab.get c.path.levels.newTrims f)
    ⟨new.slots, outputStage factors n old.out (some new.out), old.clips + new.clips⟩

/-- Where the screen gate is CLOSED the level and equaliser stages are not computed, the output is 0, and no clip event counts: a
DARK screen's clip count is zero (R51, R58, R107; R53 speaks of every stage that is computed, log 15). -/
def feedStages (c : Screen) (f : FeedId) (slots : Vector Biquad 384) (r : Int) (renderClips : Nat) : FeedOutput :=
  match c.path.screenGate with
  | .closed => ⟨slots, 0, 0⟩
  | .opened | .closing | .opening =>
    let o := runStages c f slots r
    { o with clips := o.clips + renderClips }

/-- The tone sample of a feed, when it is the tone feed (R111, R112). -/
def toneOf (s : State) (i : ScreenId) (f : FeedId) : Option Int :=
  match s.calibration with
  | [] => none
  | r :: _ => match r.tone with
    | some t => if r.screen == i && t.feed == f then some (toneSample (stepLevel t.step) (s.screen i).path.index) else none
    | none => none

/-- One sample of one feed, from the channels to the output lane and the block meter (R43 to R54). -/
def feedSample (s : State) (i : ScreenId) (filter : Option ((Int × Int) × Bool × Bool)) (f : FeedId)
    (slots : Vector Biquad 384) : Vector Biquad 384 × FeedPath :=
  let c := s.screen i
  let p := Tab.get c.path.feeds f
  let cover := Tab.get c.renderer.covers f
  let rows := c.renderer.current.rows
  let (r, renderClip) := match rows with
    | some rows => renderFeed (presented s i) (filter.map Prod.fst) rows cover f c.path.index
    | none => (0, false)
  let o := feedStages c f slots r (renderClip.toNat + filterClips rows cover f (filter.map Prod.snd))
  let out := (toneOf s i f).getD o.out
  (o.slots, ({ p with memory := (toSample r :: p.memory).take 3600 }.countClips o.clips).meter out)

/-! ### One screen, and the part -/

/-- The sixteen feeds of a screen in order, the slots threaded through them. -/
def screenFeeds (s : State) (i : ScreenId) (filter : Option ((Int × Int) × Bool × Bool)) (slots : Vector Biquad 384) :
    Vector Biquad 384 × Vector FeedPath 16 :=
  feedIds.foldl (fun acc f =>
    let (slots, p) := feedSample s i filter f acc.1
    (slots, Tab.set acc.2 f p)) (slots, (s.screen i).path.feeds)

/-- One sample of a screen: its sixteen outputs, the block index, what the feed under tone carried, and its lane (R1, R43 to
R54, R115). -/
def screenSample (s : State) (i : ScreenId) : State :=
  let c := s.screen i
  let (slots, filter) := runFilter s i
  let (slots, feeds) := screenFeeds s i filter slots
  let toned (f : FeedId) : Bool := (toneOf s i f).isSome
  let s := s.modPool fun p => { p with slots := slots }
  let s := s.modPath i fun p => { p with feeds := feeds, index := p.index + 1 }
  let s := s.modFeeds i fun v => Tab.mapIdx (fun f r => if toned f then { r with toneInBlock := true } else r) v
  setLane s i (c.lane.tick c.path.index c.settings.nMiss)

/-- One period of the house word clock; the period waits while a block boundary of some screen is due (R1, R2; log 4). -/
def samplePeriod (s : State) : State :=
  if screenIds.any fun i => boundaryDue (s.screen i) then s
  else
    let s := screenIds.foldl screenSample s
    { s with nonSync := s.nonSync.tick }

/-- SAMPLE_PERIOD (R1). -/
def execSamplePeriod (s : State) : Host.Outcome State Fault Refusal := .next (whenRunning s samplePeriod)

end Sys2Proof.Machine
end

