-- ==== Sys2Proof/Machine/StartUp.lean ====
section
/-!
DEFINITION. Power-on, the RESET line and start-up (R188, R194): the rows POWER_ON, RESET_LINE and STABILISATION_END.
-/

namespace Sys2Proof.Machine

/-! ### The two ways into start-up -/

/-- A place from the bytes it holds (R197). -/
def placeOfBytes (bs : List Byte) : Place :=
  ⟨bs.getD 0 0#8, bs.getD 1 0#8, BitVec.ofNat 16 (natField bs 2 2), bs.getD 4 0#8, bs.drop 5⟩

/-- The place that is being programmed or erased (R194). -/
def placeInHand (s : State) : Option PlaceId :=
  match s.store.op with
  | .none => none
  | .store _ _ w _ _ _ _ => some w.place
  | .commission w => some w.place
  | .recallStored _ _ _ _ _ => none
  | .wipe _ _ left _ => left.head?.map Prod.snd

/-- The places of the store as an interruption leaves them: the one in hand holds unknown content (R194, log 8). -/
def interruptedPlaces (s : State) : Vector Place 32 :=
  match placeInHand s with
  | some q => Tab.set s.store.places q (placeOfBytes (Config.unknownBytes s.freeCount))
  | none => s.store.places

/-- Working memory as a restart leaves it, with the store's places kept; the queue of commands and the model's own counters go
on (R188, R194). -/
def cleared (s : State) (places : Vector Place 32) : State :=
  { State.reset with
    pending := s.pending
    straps := s.straps
    store := { Store.blank with places := places }
    takings := s.takings
    freeCount := s.freeCount }

/-- All activity ends and the stabilisation count begins (R188, R194). -/
def restart (s : State) (byPowerOn : Bool) : State :=
  { cleared s (interruptedPlaces s) with power := .stabilising byPowerOn, freeCount := s.freeCount + 1 }

/-- POWER_ON (R188). -/
def execPowerOn (s : State) : Host.Outcome State Fault Refusal := .next (restart s true)

/-- The straps are still to be sampled when the RESET line is asserted before the end of a power-on's stabilisation
(R188). -/
def strapsDue (s : State) : Bool :=
  match s.power with
  | .stabilising byPowerOn => byPowerOn
  | .running => false

/-- RESET_LINE (R188). -/
def execResetLine (s : State) : Host.Outcome State Fault Refusal := .next (restart s (strapsDue s))

/-! ### Start-up from the end of the stabilisation count (R188) -/

/-- The highest-numbered place whose header names a record (R188 step 3). -/
def placeNaming (s : State) (r : RecordId) : Option PlaceId :=
  (List.finRange 32).reverse.find? fun q => (Tab.get s.store.places q).names == some r

/-- Step 3: the record map (R188). -/
def buildMap (s : State) : State := s.modStore fun t => { t with map := Tab.build (placeNaming s) }

/-- Step 4 for one record: taken, defaults with a fault mark, or defaults without one (R188).  The station table is set here;
its stations join at step 7. -/
def loadRecord (s : State) (r : RecordId) : State :=
  match (Tab.get s.store.map r).map fun q => (Tab.get s.store.places q).read with
  | none => s
  | some none => setFaultMark s r true
  | some (some bs) =>
    match takeRecord (fun s t => s.modLoop fun l => { l with table := t }) s r bs with
    | .taken s => s
    | .unfit => setFaultMark s r true
    | .bad => setFaultMark s r true

/-- Steps 3 and 4 (R188). -/
def loadStore (s : State) : State := (List.finRange 29).foldl loadRecord (buildMap s)

/-- Step 6: the power-on state, DARK under QUIET START (R188). -/
def powerOnState (s : State) (i : ScreenId) : ScreenState :=
  if s.straps.quietStart then .dark
  else match (s.screen i).settings.powerOnState with
    | .dark => .dark
    | .idle => .idle

/-- A gate at the end of start-up (R58). -/
def Gate.initial (cause : Bool) : Gate := if cause then .closed else .opened

/-- The screen at the end of start-up: its state, the fallback's configuration, its gates, and the level inputs of its first
block (R40, R45, R58, R149). -/
def startScreen (s : State) (i : ScreenId) : State :=
  let state := powerOnState s i
  let s := s.modControl i fun c => { c with state := state }
  let s := s.modRenderer i fun r => { r with current := dueConfiguration (s.screen i) false 0 }
  let levels := levelInputs (s.screen i)
  s.modPath i fun p => { p with screenGate := Gate.initial (state == .dark), levels := levels }

/-- Step 7: every enabled station enters JOINING (R161, R188). -/
def joinStations (s : State) : State :=
  arbitrate (stationIds.foldl (fun s k => if s.loop.table.enabled.getLsbD k.val then enterJoining s k else s) s)

/-- Step 2: the straps are sampled after a power-on, and keep their values otherwise (R188). -/
def sampledStraps (s : State) (byPowerOn storeBypass quietStart : Bool) : Straps :=
  if byPowerOn then ⟨storeBypass, quietStart⟩ else s.straps

/-- Steps 2 to 7 of start-up, from cleared working memory (R188). -/
def startUp (s : State) (byPowerOn storeBypass quietStart : Bool) : State :=
  let s := { cleared s s.store.places with straps := sampledStraps s byPowerOn storeBypass quietStart }
  let s := if s.straps.storeBypass then s else loadStore s
  let s := screenIds.foldl startUpChains s
  let s := screenIds.foldl startScreen s
  joinStations s

/-- STABILISATION_END (R188). -/
def execStabilisationEnd (storeBypass quietStart : Bool) (s : State) : Host.Outcome State Fault Refusal :=
  .next (match s.power with
    | .stabilising byPowerOn => startUp s byPowerOn storeBypass quietStart
    | .running => s)

end Sys2Proof.Machine
end

