-- ==== Sys2Proof/Machine/Dispatch.lean ====
section
/-!
DEFINITION. The dispatch: one arm per row of spec/opcode_table.json, one direct call of its meaning.
-/

namespace Sys2Proof.Machine

/-- The meaning of a command: its effect on everything but the queue. -/
def exec (i : Instr) (s : State) : Host.Outcome State Fault Refusal :=
  match i with
  | .powerOn => Sys2Proof.Machine.execPowerOn s
  | .resetLine => Sys2Proof.Machine.execResetLine s
  | .stabilisationEnd storeBypass quietStart => Sys2Proof.Machine.execStabilisationEnd storeBypass quietStart s
  | .wordFrameArrival j words => Sys2Proof.Machine.execWordFrameArrival j words s
  | .laneAbsenceTimeout j => Sys2Proof.Machine.execLaneAbsenceTimeout j s
  | .nonSyncFrameArrival left right => Sys2Proof.Machine.execNonSyncFrameArrival left right s
  | .blockBoundary j => Sys2Proof.Machine.execBlockBoundary j s
  | .segmentCompletion j => Sys2Proof.Machine.execSegmentCompletion j s
  | .crossfadeEnd j => Sys2Proof.Machine.execCrossfadeEnd j s
  | .cutExchange j => Sys2Proof.Machine.execCutExchange j s
  | .cutEnd j => Sys2Proof.Machine.execCutEnd j s
  | .freeRunLimit j => Sys2Proof.Machine.execFreeRunLimit j s
  | .pulseEnd l => Sys2Proof.Machine.execPulseEnd l s
  | .fadeEnd j => Sys2Proof.Machine.execFadeEnd j s
  | .calibrationStepEnd => Sys2Proof.Machine.execCalibrationStepEnd s
  | .senseConversionSlot reading => Sys2Proof.Machine.execSenseConversionSlot reading s
  | .safetyInputSample asserted => Sys2Proof.Machine.execSafetyInputSample asserted s
  | .frameTransmissionEnd => Sys2Proof.Machine.execFrameTransmissionEnd s
  | .frameReceived bytes => Sys2Proof.Machine.execFrameReceived bytes s
  | .replyTimerExpiry => Sys2Proof.Machine.execReplyTimerExpiry s
  | .stationTimerExpiry k => Sys2Proof.Machine.execStationTimerExpiry k s
  | .resultWindow p bytes => Sys2Proof.Machine.execResultWindow p bytes s
  | .executeWindow p bytes => Sys2Proof.Machine.execExecuteWindow p bytes s
  | .invalidOpcode p opcode params => Sys2Proof.Machine.execInvalidOpcode p opcode params s
  | .readScreen p params => Sys2Proof.Machine.execReadScreen p params s
  | .readMeters p params => Sys2Proof.Machine.execReadMeters p params s
  | .readFeed p params => Sys2Proof.Machine.execReadFeed p params s
  | .readAlarms p params => Sys2Proof.Machine.execReadAlarms p params s
  | .ackAlarm p params => Sys2Proof.Machine.execAckAlarm p params s
  | .readCues p params => Sys2Proof.Machine.execReadCues p params s
  | .locate p params => Sys2Proof.Machine.execLocate p params s
  | .readLoop p params => Sys2Proof.Machine.execReadLoop p params s
  | .readPool p params => Sys2Proof.Machine.execReadPool p params s
  | .readNotice p params => Sys2Proof.Machine.execReadNotice p params s
  | .collect p params => Sys2Proof.Machine.execCollect p params s
  | .wake p params => Sys2Proof.Machine.execWake p params s
  | .sleep p params => Sys2Proof.Machine.execSleep p params s
  | .startShow p params => Sys2Proof.Machine.execStartShow p params s
  | .endShow p params => Sys2Proof.Machine.execEndShow p params s
  | .resume p params => Sys2Proof.Machine.execResume p params s
  | .setLevel p params => Sys2Proof.Machine.execSetLevel p params s
  | .fade p params => Sys2Proof.Machine.execFade p params s
  | .selectSource p params => Sys2Proof.Machine.execSelectSource p params s
  | .selectPreset p params => Sys2Proof.Machine.execSelectPreset p params s
  | .setLock p params => Sys2Proof.Machine.execSetLock p params s
  | .setTrim p params => Sys2Proof.Machine.execSetTrim p params s
  | .clearFeed p params => Sys2Proof.Machine.execClearFeed p params s
  | .sendOrder p params => Sys2Proof.Machine.execSendOrder p params s
  | .setLine p params => Sys2Proof.Machine.execSetLine p params s
  | .calibrate p params => Sys2Proof.Machine.execCalibrate p params s
  | .abort p params => Sys2Proof.Machine.execAbort p params s
  | .openLoad p params => Sys2Proof.Machine.execOpenLoad p params s
  | .parcel p params => Sys2Proof.Machine.execParcel p params s
  | .closeLoad p params => Sys2Proof.Machine.execCloseLoad p params s
  | .store p params => Sys2Proof.Machine.execStore p params s
  | .storeWriteComplete matched retirementTook => Sys2Proof.Machine.execStoreWriteComplete matched retirementTook s
  | .recallStored p params => Sys2Proof.Machine.execRecall p params s
  | .recallReadComplete => Sys2Proof.Machine.execRecallReadComplete s
  | .wipeScreen p params => Sys2Proof.Machine.execWipeScreen p params s
  | .eraseComplete => Sys2Proof.Machine.execEraseComplete s
  | .commission p params => Sys2Proof.Machine.execCommission p params s
  | .portReset p rest => Sys2Proof.Machine.execPortReset p rest s
  | .commandPhaseEnd p bytes => Sys2Proof.Machine.execCommandPhaseEnd p bytes s
  | .samplePeriod => Sys2Proof.Machine.execSamplePeriod s

end Sys2Proof.Machine
end

