-- ==== Sys2Proof/Safety.lean ====
section
/-!
DEFINITION. What statements speak of: a command being executed, and the properties that the rules say always hold.
-/

namespace Sys2Proof.Machine

/-- The part runs: start-up is over (R188). -/
abbrev Running (s : State) : Prop := s.power = .running

/-- The port is executing the command of this opcode and these parameter bytes (R173). -/
abbrev Executing (s : State) (p : PortId) (opcode : Byte) (params : List Byte) : Prop :=
  Running s ∧ (s.port p).phase = .execute ∧ (s.port p).command = opcode :: params

/-- The port has the screen in its screen mask (R176). -/
abbrev Covers (s : State) (p : PortId) (i : ScreenId) : Prop := (s.port p).access.screens.getLsbD i.val = true

/-- The port holds the house right (R176). -/
abbrev HasHouse (s : State) (p : PortId) : Prop := (s.port p).access.house = true

/-- A boundary of the screen is due, and the sub-step has not been taken at it (R2). -/
abbrev BoundaryOpen (s : State) (i : ScreenId) (sub : SubStep) : Prop :=
  boundaryDue (s.screen i) = true ∧ sub ∉ (s.screen i).path.taken

/-- The parameter byte that gives a number counted from 1 (R198). -/
def numberParam {k : Nat} (i : Fin k) : Byte := BitVec.ofNat 8 (i.val + 1)

/-- The loop awaits a reply of the station (R151). -/
def LoopState.isAwaiting (l : LoopState) (k : StationId) : Bool :=
  match l with
  | .awaiting j _ => j == k
  | .free => false
  | .sending _ => false

/-- The state with a NORMAL, OK result of this opcode in the port (R175). -/
def answered (s : State) (p : PortId) (opcode : Byte) (payload : List Byte) : State :=
  placeResult s p ⟨opcode, .normal, .ok, payload⟩

/-- The state with a REFUSED result in the port (R175). -/
def refused (s : State) (p : PortId) (opcode : Byte) (r : Reason) : State := placeResult s p ⟨opcode, .refused, r, []⟩

/-- The states agree on everything that belongs to no one screen. -/
def SameDevice (s t : State) : Prop :=
  t.pending = s.pending ∧ t.power = s.power ∧ t.straps = s.straps ∧ t.houseTime = s.houseTime ∧ t.nonSync = s.nonSync ∧
    t.pool = s.pool ∧ t.scanner = s.scanner ∧ t.alarms = s.alarms ∧ t.calibration = s.calibration ∧ t.lines = s.lines ∧
    t.loop = s.loop ∧ t.safety = s.safety ∧ t.ports = s.ports ∧ t.completions = s.completions ∧ t.store = s.store

/-- The states agree on every screen but one. -/
def SameOthers (i : ScreenId) (s t : State) : Prop := ∀ j, j ≠ i → t.screen j = s.screen j

/-- Every screen's ceiling lies within −100..0 (R96). -/
def CeilingsInRange (s : State) : Prop :=
  ∀ i, -100 ≤ (s.screen i).governor.ceiling ∧ (s.screen i).governor.ceiling ≤ 0

/-- The transmit queue holds at most 32 orders, together with an order that the transmitter has taken from it in the slot in which
the loop became FREE, which is not a later slot (R154, R156; log 25). -/
def QueueBounded (s : State) : Prop := ordersHeld s ≤ 32 ∧ ∀ n ∈ s.loop.freedAt, n ≤ s.scanner.slot

/-- At most 8 completion entries, no two with the same ticket, every ticket and the counter within 1 to 255 (R181). -/
def CompletionsSound (s : State) : Prop :=
  s.completions.entries.length ≤ 8 ∧ (s.completions.entries.map Entry.ticket).Nodup ∧
    (∀ e ∈ s.completions.entries, 1 ≤ e.ticket ∧ e.ticket ≤ 255) ∧
    1 ≤ s.completions.counter ∧ s.completions.counter ≤ 255

/-- At most 64 alarm records, no two of the same kind and scope; the OVERFLOW record alone stands in its place (R99, R102). -/
def AlarmsSound (s : State) : Prop :=
  s.alarms.ordinary.length ≤ 63 ∧
    (s.alarms.records.map fun r => (r.kind, r.scope)).Nodup ∧
    (∀ r ∈ s.alarms.ordinary, r.kind ≠ .overflow) ∧
    (∀ r ∈ s.alarms.overflow, r.kind = .overflow ∧ r.scope = .device)

/-- A station's outstanding orders: at most 3, numbered consecutively modulo 8 from the oldest unacknowledged number up to the
next send number (R153). -/
def Station.inWindow (r : Station) : Prop :=
  r.outstanding.length ≤ 3 ∧ r.oldest < 8 ∧ r.next = (r.oldest + r.outstanding.length) % 8 ∧
    ∀ (j : Nat) (o : Outstanding), r.outstanding[j]? = some o → o.number = (r.oldest + j) % 8

/-- Every station keeps its window; a station with nothing to send has nothing outstanding, one that is not enabled is ABSENT, and
an ABSENT one has no frame due (R152, R153). -/
def StationsInWindow (s : State) : Prop :=
  ∀ k, (s.station k).inWindow ∧
    ((s.station k).state ≠ .up → (s.station k).state ≠ .busy → (s.station k).outstanding = []) ∧
    (s.loop.table.enabled.getLsbD k.val = false → (s.station k).state = .absent) ∧
    ((s.station k).state = .absent → (s.station k).due = none)

/-- Every slot of the pool has exactly one place: on the free list, in a chain, or in a surround filter; incoming chains stand
exactly in a crossfade (R60, R62). -/
def SlotsPartitioned (s : State) : Prop :=
  (s.pool.free ++ screenIds.flatMap fun i => screenSlots (s.screen i)).Perm (List.finRange 384) ∧
    ∀ i, (s.equaliser i).incoming.isSome = true ↔ ∃ r, (s.equaliser i).switch = .crossfade r

/-- The four cue lists hold at most 256 records (R131). -/
def CuesInMemory (s : State) : Prop := cuesHeld s ≤ 256

/-- Every render table holds at most 192 terms (R22), and every staging at most 4,096 bytes (R177). -/
def BudgetsKept (s : State) : Prop :=
  (∀ i, termCount (s.screen i).renderer.table ≤ 192) ∧
    ∀ p t bytes sent, (s.port p).staging = .opened t bytes sent → bytes.length ≤ 4096

/-- The content of a cue list: times, actions and enabled flags; the taken flags and outcomes are the running state of the show
(R130). -/
def cueContent (cues : List Cue) : List (Nat × CueAction × Bool) := cues.map fun q => (q.time, q.action, q.enabled)

/-- The numbers of parameter bytes that a command takes (R198); none for an opcode that names no command, and for PORT RESET,
which ignores what follows it. -/
def parameterCounts (opcode : Byte) : Option (List Nat) :=
  match opcode.toNat with
  | 0x01 | 0x02 | 0x04 | 0x0A | 0x10 | 0x11 | 0x12 | 0x13 | 0x14 | 0x1F | 0x20 | 0x23 | 0x25 | 0x26 => some [1]
  | 0x03 | 0x06 | 0x17 | 0x18 | 0x19 | 0x1B | 0x22 | 0x24 => some [2]
  | 0x05 => some [1, 3]
  | 0x07 | 0x16 | 0x1D => some [5]
  | 0x08 | 0x09 | 0x0B => some [0]
  | 0x15 | 0x1E => some [3]
  | 0x1A | 0x1C => some [4]
  | 0x21 => some (List.range' 1 32)
  | _ => none

/-- The two scope bytes of ACK ALARM fit the class of the kind code (R101, R198). -/
def scopeFits (kind b1 b2 : Nat) : Bool :=
  decide ((1 ≤ kind ∧ kind ≤ 4 ∧ 1 ≤ b1 ∧ b1 ≤ 4 ∧ 1 ≤ b2 ∧ b2 ≤ 16) ∨ (5 ≤ kind ∧ kind ≤ 8 ∧ 1 ≤ b1 ∧ b1 ≤ 4 ∧ b2 = 0) ∨
    (9 ≤ kind ∧ kind ≤ 10 ∧ 1 ≤ b1 ∧ b1 ≤ 8 ∧ b2 = 0) ∨ (11 ≤ kind ∧ kind ≤ 14 ∧ b1 = 0 ∧ b2 = 0))

/-- A parameter of the command lies outside its range (R198, and the rule of each command); CLOSE LOAD, whose content is judged by
its layout, ABORT, whose ticket is looked up, and the commands without ranges are left out. -/
def outOfRange (opcode : Byte) (params : List Byte) : Bool :=
  let value (k : Nat) : Nat := (params.getD k 0#8).toNat
  let noScreen (k : Nat) : Bool := decide (value k = 0 ∨ 4 < value k)
  let noFeed (k : Nat) : Bool := decide (value k = 0 ∨ 16 < value k)
  let duration : Nat := 256 * value 2 + value 3
  match opcode.toNat with
  | 0x01 | 0x02 | 0x06 | 0x0A | 0x10 | 0x11 | 0x12 | 0x13 | 0x15 | 0x16 | 0x25 | 0x26 => noScreen 0
  | 0x03 | 0x1A | 0x1B => noScreen 0 || noFeed 1
  | 0x04 => decide (63 < value 0)
  | 0x05 => if params.length = 1 then decide (value 0 ≠ 0) else !scopeFits (value 0) (value 1) (value 2)
  | 0x07 | 0x17 => noScreen 0 || decide (2 < value 1)
  | 0x14 | 0x23 => decide (4 < value 0)
  | 0x18 => noScreen 0 || decide (3 < value 1)
  | 0x19 => noScreen 0 || decide (1 < value 1)
  | 0x1C => decide (value 0 = 0 ∨ 15 < value 0 ∨ 127 < value 1)
  | 0x1D => decide (value 0 = 0 ∨ 16 < value 0 ∨ 2 < value 1 ∨ duration = 0 ∨ 1000 < duration) || noScreen 4
  | 0x1E => noScreen 0 || decide (value 1 = 0 ∧ value 2 = 0)
  | 0x20 => decide (value 0 = 0 ∨ 7 < value 0)
  | 0x24 => decide (4 < value 0) || if value 0 = 0 then decide (value 1 ≠ 0) else decide (7 < value 1)
  | _ => false

/-- The ticket that the next long operation gets: the first one from the counter on, in steps of 1 that wrap from 255 to 1, that
no entry holds (R181). -/
def FreshTicket (s : State) (ticket : Nat) : Prop :=
  let after (j : Nat) : Nat := (s.completions.counter - 1 + j) % 255 + 1
  1 ≤ ticket ∧ ticket ≤ 255 ∧ (∀ e ∈ s.completions.entries, e.ticket ≠ ticket) ∧
    ∃ j, ticket = after j ∧ ∀ m, m < j → ∃ e ∈ s.completions.entries, e.ticket = after m

/-- The completion table with a RUNNING entry more, and the counter past its ticket (R181). -/
def entered (s : State) (ticket : Nat) (p : PortId) (kind : OperationKind) : CompletionTable :=
  { s.completions with
    entries := s.completions.entries ++ [⟨ticket, p, kind, none⟩]
    counter := if ticket = 255 then 1 else ticket + 1 }

/-- The entry of the ticket is RUNNING (R181). -/
def RunningEntry (s : State) (ticket : Nat) : Prop := ∃ e ∈ s.completions.entries, e.ticket = ticket ∧ e.done = none

/-- In `u` the entry of the ticket is DONE as said, as the next of `s` in the done order (R181). -/
def DoneAs (s u : State) (ticket : Nat) (t : Termination) (r : Reason) (payload : List Byte) : Prop :=
  ∃ e ∈ u.completions.entries, e.ticket = ticket ∧ e.done = some ⟨t, r, payload, s.completions.nextOrder⟩

/-- From `s` to `u` the cues whose takings `reached` picks get the outcome, where they have stayed taken; nothing else of any
screen changes (R143). -/
def Reported (s u : State) (reached : CueRef → Prop) (o : CueOutcome) : Prop :=
  ∀ i, u.screen i = { s.screen i with control := { s.control i with cues := (u.control i).cues } } ∧
    (u.control i).cues.length = (s.control i).cues.length ∧
    ∀ (n : Nat) (q q' : Cue), (s.control i).cues[n]? = some q → (u.control i).cues[n]? = some q' →
      (q.taken = true → reached ⟨i, n, q.taking⟩ → q' = { q with outcome := o }) ∧
        (q.taken = false ∨ ¬ reached ⟨i, n, q.taking⟩ → q' = q)

/-- The alarm table after the report of a condition that stood as `before` and stands as `after`: its start where it has come, its
end where it has gone, and no report where it stands as it stood (R98). -/
def changeReported (now : BitVec 32) (kind : AlarmKind) (scope : Scope) (before after : Bool) (a : AlarmTable) : AlarmTable :=
  if before = after then a else if after then a.start now kind scope else a.finish now kind scope

/-- The alarm table after reports in order, each a kind, a scope and whether it is a start (R98). -/
def reportsTaken (now : BitVec 32) (xs : List (AlarmKind × Scope × Bool)) (a : AlarmTable) : AlarmTable :=
  xs.foldl (fun a x => if x.2.2 then a.start now x.1 x.2.1 else a.finish now x.1 x.2.1) a

/-- The report of a condition that stood as `before` and stands as `after`, where there is one (R98). -/
def reportOf (kind : AlarmKind) (scope : Scope) (before after : Bool) : List (AlarmKind × Scope × Bool) :=
  if before = after then [] else [(kind, scope, after)]

/-- The reports of a feed's four conditions (R83, R98). -/
def feedReports (i : ScreenId) (f : FeedId) (r r' : Feed) : List (AlarmKind × Scope × Bool) :=
  reportOf .dead (.feed i f) r.dead r'.dead ++ reportOf .hot (.feed i f) r.hot r'.hot
    ++ reportOf .overLevel (.feed i f) r.overLevel r'.overLevel ++ reportOf .clip (.feed i f) r.clip r'.clip

/-- What a station that goes DOWN does to LOOP_CONGESTED, `u` being the state after it, and the alarm table that its reports leave
(R154, R160). -/
def downReported (s u : State) (k : StationId) : AlarmTable :=
  changeReported s.houseTime .stationDown (.station k) (s.station k).downStands true
    (changeReported s.houseTime .loopCongested .device s.loop.congested u.loop.congested s.alarms)

/-- LOOP_CONGESTED stands on while the queue holds 24 orders or more (R154). -/
def CongestionSettled (s u : State) : Prop :=
  u.loop.congested = (s.loop.congested && decide (24 ≤ u.loop.queue.length))

/-- A coming boundary of the screen leaves its calibration requests to their sweep: no held SLEEP takes effect at it, and no show
starts by itself (R109, R119, R125, R127). -/
def SweepsStay (s : State) (i : ScreenId) : Prop :=
  (s.control i).sleepHeld = false ∧ ((s.control i).state ≠ .idle ∨ (s.screen i).settings.autoStart = false ∨
    ∀ p, handedNext (s.screen i).lane ≠ some (.streamLocked p))

/-- The completion entry of the request that ended its switch is DONE with the outcome's code and the sections in use (R67). -/
def SwitchTold (s u : State) (i : ScreenId) (r : Request) (code : Byte) : Prop :=
  ∀ ticket, r.origin = .command ticket → RunningEntry s ticket →
    ∃ x ∈ u.completions.entries, x.ticket = ticket ∧ ∃ d, x.done = some d ∧ d.termination = .normal ∧ d.reason = .ok ∧
      d.payload = [numberParam i, BitVec.ofNat 8 r.preset.val, code] ++ byte (recordSlots (u.equaliser i).running).length

/-- The orders to a station that are on its outstanding list or wait to be sent came from the cue's taking (R154). -/
def OrderedBy (s : State) (k : StationId) (ref : CueRef) : Prop :=
  (∃ o ∈ (s.station k).outstanding, o.origin = .cue ref) ∨ ∃ o ∈ s.loop.queue, o.form = .order k ∧ o.origin = .cue ref

/-- The part is not sending, so that what a frame brings is gathered (R196). -/
def Gathers (s : State) : Prop := ∀ f, s.loop.state ≠ .sending f

/-- The frame that the loop is sending was not taken at this instant: the judgement of R156 is over. -/
def Judged (s : State) : Prop := s.loop.freedAt ≠ some s.scanner.slot ∨ ∀ f, s.loop.state ≠ .sending f

/-- What the transmitter's judgement of R156 rests on in every state of a run: the queue within its 32 orders, and no frame due for
an ABSENT station; every command keeps QueueBounded, and StationsInWindow says the other. -/
def LoopSound (s : State) : Prop :=
  QueueBounded s ∧ ∀ k, (s.station k).state = .absent → (s.station k).due = none

/-- The configuration that is due for a block that is, or is not, in the locked stream, `code` being the program's format
(R29). -/
def DueFor (c : Screen) (inStream : Prop) (code : FormatCode) (k : Configuration) : Prop :=
  let program : Prop := c.renderer.selected = .program ∧ inStream
  let nonSync : Prop := c.renderer.selected = .nonsync ∨
    (c.renderer.selected = .program ∧ ¬ inStream ∧ c.settings.fallbackNonsync = true)
  (program → k.source = .program ∧ k.format = .program code ∧ (code = 0 → k.rows = none) ∧
    (∀ f : RowSetId, f.val + 1 = code.val → k.rows = some (Tab.get c.renderer.table f)) ∧
    k.surroundDelay = if code = 2 then some c.settings.surroundDelay else none) ∧
  (nonSync → k = { source := .nonsync, format := .ns, rows := some (Tab.get c.renderer.table 6), surroundDelay := none }) ∧
  (¬ program → ¬ nonSync → k = { source := .mute, format := .none, rows := none, surroundDelay := none })

/-- The row sets as their bytes announce them keep the rules of R37: known formats, none twice, at most 4 terms a row, channels 1
to 14, polarities 0 and 1. -/
def RowSetsFit (raw : List (Nat × List RawRow)) : Prop :=
  (∀ x ∈ raw, 1 ≤ x.1 ∧ x.1 ≤ 7) ∧ (raw.map Prod.fst).Nodup ∧
    ∀ x ∈ raw, ∀ row ∈ x.2, row.2.length ≤ 4 ∧
      ∀ m ∈ row.2, 1 ≤ (m.getD 0 0#8).toNat ∧ (m.getD 0 0#8).toNat ≤ 14 ∧ (m.getD 3 0#8).toNat ≤ 1

/-- The render table `new` has the row sets that `raw` carries, their levels clamped, and those of `old` otherwise (R37). -/
def TableTaken (raw : List (Nat × List RawRow)) (old new : RenderTable) : Prop :=
  ∀ f : RowSetId,
    ((∀ x ∈ raw, x.1 ≠ f.val + 1) → Tab.get new f = Tab.get old f) ∧
    ∀ rows, (f.val + 1, rows) ∈ raw → ∀ (g : FeedId) (flag : Bool) (members : List (List Byte)),
      rows[g.val]? = some (flag, members) →
      (Tab.get (Tab.get new f) g).surround = flag ∧
        (Tab.get (Tab.get new f) g).terms.map (fun t => (t.channel.val + 1, t.level, t.negative)) =
          members.map fun m => ((m.getD 0 0#8).toNat,
            max (-960) (min 120 (m.getD 1 0#8 ++ m.getD 2 0#8 : BitVec 16).toInt), decide (m.getD 3 0#8 = 1#8))

/-- The terms of a render table (R22). -/
def termTotal (t : RenderTable) : Nat := ((Tab.list t).flatMap fun rows => (Tab.list rows).flatMap Row.terms).length

/-- The 48 bytes give every line an owner 0 to 4, a role 0 to 5 and a polarity 0 or 1 (R144, R195). -/
def LineBytesFit (bytes : List Byte) : Prop :=
  bytes.length = 48 ∧ ∀ l : LineId, (bytes.getD (3 * l.val) 0#8).toNat ≤ 4 ∧ (bytes.getD (3 * l.val + 1) 0#8).toNat ≤ 5 ∧
    (bytes.getD (3 * l.val + 2) 0#8).toNat ≤ 1

/-- Every line has the owner, role and polarity that the 48 bytes give it, and keeps its flag and pulse (R144, R195). -/
def LinesTaken (bytes : List Byte) (old new : Vector CueLine 16) : Prop :=
  ∀ l : LineId,
    let owner := (bytes.getD (3 * l.val) 0#8).toNat
    let role := (bytes.getD (3 * l.val + 1) 0#8).toNat
    let r := Tab.get new l
    r = { Tab.get old l with owner := r.owner, role := r.role, inverted := bytes.getD (3 * l.val + 2) 0#8 == 1#8 } ∧
      (match r.owner with
        | .house => owner = 0
        | .screen i => owner = i.val + 1) ∧
      (match r.role with
        | .plain => role = 0
        | .alarmLamp i => role = i.val + 1
        | .evac => role = 5)

/-- A station table takes the place of the one that stands: a station newly enabled joins, one no longer enabled loses its orders
and is ABSENT, the others stay (R152, R161). -/
def StationsTaken (table : StationTable) (s v : State) : Prop :=
  let joins (k : StationId) : Prop := s.loop.table.enabled.getLsbD k.val = false ∧ table.enabled.getLsbD k.val = true
  let leaves (k : StationId) : Prop := s.loop.table.enabled.getLsbD k.val = true ∧ table.enabled.getLsbD k.val = false
  v.loop.table = table ∧
    (∀ k, (joins k → v.station k = { s.station k with
        state := .joining, next := 0, oldest := 0, retry := 0, resend := none, timer := none, due := some .restart }) ∧
      (leaves k → v.station k = { s.station k with
        state := .absent, next := 0, oldest := 0, outstanding := [], retry := 0, resend := none, timer := none
        due := none, fault := false, downStands := false }) ∧
      (¬ joins k → ¬ leaves k → v.station k = s.station k)) ∧
    (∀ o, o ∈ v.loop.queue ↔ o ∈ s.loop.queue ∧ ∀ k, leaves k → o.form ≠ .order k) ∧
    v.loop.queue.Sublist s.loop.queue ∧
    ((∃ k, leaves k ∧ s.loop.state.isAwaiting k = true) → v.loop.state = .free) ∧
    ((∀ k, leaves k → s.loop.state.isAwaiting k = false) → v.loop.state = s.loop.state) ∧
    v.loop.evacuationSlot = s.loop.evacuationSlot ∧
    Reported s v (fun ref => ∃ k, leaves k ∧ OrderedBy s k ref) .failedStation

/-- Every port has the screen mask and the house right that the ten bytes give it (R180, R195). -/
def AccessTaken (bytes : List Byte) (ports : PortId → Port) (new : PortId → Port) : Prop :=
  ∀ k : PortId, new k = { ports k with
    access := ⟨(bytes.getD (2 * k.val) 0#8).extractLsb' 0 4, bytes.getD (2 * k.val + 1) 0#8 != 0#8⟩ }

/-- A cue list is in time order, with the load order kept among equal times (R132). -/
def CuesTaken (loaded sorted : List Cue) : Prop :=
  sorted.Perm loaded ∧ sorted.Pairwise (fun a b => a.time ≤ b.time) ∧
    ∀ time, sorted.filter (fun q => q.time == time) = loaded.filter (fun q => q.time == time)

/-- The calibration data of sixteen feeds in the bytes of a SETTINGS record from 42 on: 0 for UNVERIFIED, 1 for VERIFIED with Tcal
and Scal (R122; log 9). -/
def CalibrationTaken (bytes : List Byte) (feeds : Vector Feed 16) : Prop :=
  ∀ f : FeedId,
    let b (k : Nat) : Byte := bytes.getD (42 + 5 * f.val + k) 0#8
    (b 0 = 0#8 ∧ (Tab.get feeds f).calibration = none) ∨
      (b 0 = 1#8 ∧ (Tab.get feeds f).calibration = some ((b 1 ++ b 2 : BitVec 16).toInt, (b 3 ++ b 4 : BitVec 16).toNat))

/-- The notice after a change of format is recorded in it (R16). -/
def NoticeTakes (n : Notice) (c : FormatChange) (n' : Notice) : Prop :=
  (n.count = .zero → n' = { n with count := .one, first := some c, latest := some c }) ∧
    (n.count = .one → n' = { n with count := .two, latest := some c }) ∧
    (n.count = .two ∨ n.count = .more → n' = { n with count := .more, latest := some c, more := true })

/-! ### Cues at a boundary -/

/-- The evaluation of a step from q to p: a normal advance, but a chase where the position range wraps (R134). -/
def onward (q p : Nat) : Evaluation := if q = 16777215 ∧ p = 0 then .chase q p else .advance p

/-- The rows of R134's table with those of R135: the clock before, what is handed at the boundary, the clock after and the
evaluation. -/
inductive ClockRow (limit : Nat) : ShowClock → Option Report → ShowClock → Evaluation → Prop
  | waitingNormal (p : Nat) : ClockRow limit .waiting (some (.normal p)) (.tracking p) (.start p)
  | waitingJump (o p : Nat) : ClockRow limit .waiting (some (.jump o p)) (.tracking p) (.start p)
  | waitingLocked (p : Nat) : ClockRow limit .waiting (some (.streamLocked p)) (.tracking p) (.start p)
  | waitingLost (p : Nat) : ClockRow limit .waiting (some (.streamLost p)) (.freeRun p 0) (.start p)
  | waitingNothing : ClockRow limit .waiting none .waiting .none
  | trackingNormal (q p : Nat) : ClockRow limit (.tracking q) (some (.normal p)) (.tracking p) (onward q p)
  | trackingJump (q o n : Nat) : ClockRow limit (.tracking q) (some (.jump o n)) (.tracking n) (.chase o n)
  | trackingLost (q p : Nat) : ClockRow limit (.tracking q) (some (.streamLost p)) (.freeRun p 0) (onward q p)
  | freeRunOn (q k : Nat) (h : k < limit) :
      ClockRow limit (.freeRun q k) none (.freeRun (nextPosition q) (k + 1)) (onward q (nextPosition q))
  | freeRunStops (q k : Nat) (h : limit ≤ k) : ClockRow limit (.freeRun q k) none (.frozen q) .none
  | freeRunExpected (q k : Nat) :
      ClockRow limit (.freeRun q k) (some (.streamLocked (nextPosition q))) (.tracking (nextPosition q))
        (onward q (nextPosition q))
  | freeRunElsewhere (q k p : Nat) (h : p ≠ nextPosition q) :
      ClockRow limit (.freeRun q k) (some (.streamLocked p)) (.tracking p) (.chase q p)
  | frozenExpected (q : Nat) :
      ClockRow limit (.frozen q) (some (.streamLocked (nextPosition q))) (.tracking (nextPosition q))
        (onward q (nextPosition q))
  | frozenElsewhere (q p : Nat) (h : p ≠ nextPosition q) :
      ClockRow limit (.frozen q) (some (.streamLocked p)) (.tracking p) (.chase q p)
  | frozenNothing (q : Nat) : ClockRow limit (.frozen q) none (.frozen q) .none

/-- The cue at index `n` of a list is `q`, and the last of those that `P` picks. -/
def LastCue (cues : List Cue) (P : Cue → Prop) (n : Nat) (q : Cue) : Prop :=
  cues[n]? = some q ∧ P q ∧ ∀ (m : Nat) (r : Cue), cues[m]? = some r → P r → m ≤ n

/-- The line takes actions from the screen: its owner is the screen or HOUSE (R145). -/
def TakesFrom (s : State) (l : LineId) (i : ScreenId) : Prop := (s.line l).owner = .house ∨ (s.line l).owner = .screen i

/-- The fader's move after its own step at a boundary (R57). -/
def steppedMove (s : State) (i : ScreenId) : FaderMove :=
  if SubStep.fade ∈ (s.screen i).path.taken then (s.control i).move
  else (faderNext (s.control i).fader (s.control i).move).2

/-- The line's pulse has counted a boundary of the screen, where it is that screen's to count (R145). -/
def PulseCounted (s : State) (i : ScreenId) (l : LineId) (r' : CueLine) : Prop :=
  let r := s.line l
  (r.pulseScreen = some i ∧ SubStep.pulse l ∉ (s.screen i).path.taken →
    r'.pulse = r.pulse - 1 ∧ r'.pulseScreen = if r.pulse ≤ 1 then none else some i) ∧
    (¬ (r.pulseScreen = some i ∧ SubStep.pulse l ∉ (s.screen i).path.taken) →
      r'.pulse = r.pulse ∧ r'.pulseScreen = r.pulseScreen)

/-- The outcome that the section pool reports at a coming boundary of the screen to the cue of a taking: that of the decision of
the request which waits in the pending place, made after the progress of a switch that is due there and was not a step of its own
(R66, R68, R141, R143); none where it decides no request of the taking. -/
def poolReport (s : State) (i : ScreenId) (ref : CueRef) : Option CueOutcome :=
  let e := s.equaliser i
  let old := (recordSlots e.running).length
  let decided (r : Request) (inUse free : Nat) : Option CueOutcome :=
    if r.origin = .cue ref then
      some (if totalSections (Tab.get e.bank r.preset) ≤ free - claimedCount s + inUse then .done else .failedPool)
    else none
  if SubStep.switchProgress ∈ (s.screen i).path.taken then none
  else
    match e.pending, e.switch with
    | some r, .none => decided r old s.pool.free.length
    | some r, .cutIn _ => decided r old s.pool.free.length
    | some r, .crossfade _ => decided r (recordSlots (e.incoming.getD e.running)).length (s.pool.free.length + old)
    | some _, .cutOut _ _ => none
    | none, _ => none

/-- The cue at index `n` of the screen's list has stayed as it was: its content, flag and taking, and its outcome but for what the
pool reports at the boundary (R143). -/
def CueStands (s : State) (i : ScreenId) (n : Nat) (q q' : Cue) : Prop :=
  q' = { q with outcome := if q.taken then (poolReport s i ⟨i, n, q.taking⟩).getD q.outcome else q.outcome }

/-- The cues of a screen's list stand as they did, but for outcomes that the pool reports at the boundary (R143). -/
def CuesStand (s t : State) (i : ScreenId) : Prop :=
  (t.control i).cues.length = (s.control i).cues.length ∧
    ∀ (n : Nat) (q q' : Cue), (s.control i).cues[n]? = some q → (t.control i).cues[n]? = some q' → CueStands s i n q q'

/-- A boundary of the screen from `s` to `t` at which no cue is taken: nothing that a cue moves is moved by one. -/
def NothingTaken (i : ScreenId) (s t : State) : Prop :=
  CuesStand s t i ∧ (t.control i).move = steppedMove s i ∧ (t.control i).lock = (s.control i).lock ∧
    (t.screen i).renderer.selected = (s.screen i).renderer.selected ∧
    ((s.equaliser i).pending = none → (t.equaliser i).pending = none) ∧
    (∀ l, (t.line l).flag = (s.line l).flag ∧ PulseCounted s i l (t.line l)) ∧ t.loop = (arbitrate s).loop ∧
    (t.control i).lastEvaluated = (s.control i).lastEvaluated

/-- A coming boundary of the screen leaves every cue that is taken as it is, but for its outcome: the screen is in DARK, or in IDLE
where no show starts by itself, or in SHOW, suspended or with no chase to make (R127, R134, R136, R139). -/
def CuesStayTaken (s : State) (i : ScreenId) : Prop :=
  let c := s.control i
  let handed := handedNext (s.screen i).lane
  c.state = .dark ∨ (c.state = .idle ∧ ((s.screen i).settings.autoStart = false ∨ ∀ p, handed ≠ some (.streamLocked p))) ∨
    (c.state = .inShow ∧ (c.suspension.isSome = true ∨ (c.resumeFrom = none ∧
      ∃ clock' e, ClockRow (s.screen i).settings.freeRunLimit c.clock handed clock' e ∧
        (e = .none ∨ ∃ p, e = .advance p))))

/-- The records of a screen that an activation has copied from preset `n` of the bank, their chains in slots of the pool with the
coefficients of the bank and the state zero (R69, R70, R76). -/
def Copied (e : Equaliser) (n : PresetId) (slots : Vector Biquad 384) (v : Vector FeedRecord 16) : Prop :=
  ∀ f,
    let entry := Tab.get (Tab.get e.bank n) f
    let record := Tab.get v f
    record.delay = entry.delay ∧ (e.commissioned = none ∨ n ≠ 0 → record.trim = entry.trim) ∧
      (∀ trims, e.commissioned = some trims → n = 0 →
        record.trim = max (Tab.get trims f - 30) (min (Tab.get trims f + 30) entry.trim)) ∧
      record.chain.length = entry.sections.length ∧
      ∀ (k : Nat) (q : SlotId) (co : Coefficients), record.chain[k]? = some q → entry.sections[k]? = some co →
        Tab.get slots q = ⟨co, 0#24, 0#24, 0#24, 0#24⟩

/-- From `s` to `t` the pool has decided the request of the screen, over the records `running` of preset `active` and the free list
`free` as the progress of a switch left them: a crossfade, a cut with its claim, or a failure, each told to its owner (R61, R67 to
R71).  `hears` says that the boundary leaves the cue of the request as it is but for the report, and `steady` that no surround
filter is requested or released at it. -/
def Decided (s t : State) (i : ScreenId) (r : Request) (running : Vector FeedRecord 16) (active : PresetId)
    (free : List SlotId) (hears steady : Prop) : Prop :=
  let e := s.equaliser i
  let e' := t.equaliser i
  let filterShort := (s.screen i).renderer.filter == .short
  let need := totalSections (Tab.get e.bank r.preset)
  let available := free.length - claimedCount s
  let inUse := (recordSlots running).length
  let told (o : CueOutcome) : Prop := hears →
    ∀ ref q, r.origin = .cue ref → (s.control ref.screen).cues[ref.index]? = some q → q.taken = true →
      q.taking = ref.taking → (t.control ref.screen).cues[ref.index]? = some { q with outcome := o }
  e'.running = running ∧ e'.active = active ∧ e'.bank = e.bank ∧ e'.commissioned = e.commissioned ∧
    (steady → t.pool.free = (if need ≤ available then free.drop need else free) ∧
      ∃ xs, t.alarms = reportsTaken s.houseTime xs s.alarms ∧
        xs.filter (fun x => x.1 == .poolShort) =
          reportOf .poolShort (.screen i) (e.poolShort || filterShort) (e'.poolShort || filterShort)) ∧
    (∀ ticket, r.origin = .command ticket → e'.pending ≠ some r) ∧
    (need ≤ available → e'.switch = .crossfade r ∧ e'.poolShort = false ∧ told .done ∧
      ∃ v, e'.incoming = some v ∧ recordSlots v = free.take need ∧ Copied e r.preset t.pool.slots v) ∧
    (available < need → need ≤ available + inUse →
      e'.switch = .cutOut r (need - inUse) ∧ e'.poolShort = false ∧ told .done) ∧
    (available + inUse < need → e'.switch = .none ∧ e'.poolShort = true ∧ told .failedPool ∧
      ∀ ticket, r.origin = .command ticket → RunningEntry s ticket → (∀ q ∈ s.calibration, q.ticket ≠ ticket) →
        (∀ q, e.switch = .crossfade q ∨ e.switch = .cutIn q → q.origin ≠ .command ticket) →
        ∃ x ∈ t.completions.entries, x.ticket = ticket ∧ ∃ d, x.done = some d ∧ d.termination = .abrupt ∧
          d.reason = .poolShort ∧
          d.payload = [numberParam i, BitVec.ofNat 8 r.preset.val, 2#8] ++ byte need ++ bytesOf 2 available)

/-- The reference of the latest taking of a cue (R143). -/
def takingOf (t : State) (i : ScreenId) (n : Nat) : CueRef := ⟨i, n, ((t.control i).cues[n]?.map Cue.taking).getD 0⟩

/-- The station of an ORDER cue's address takes no orders (R154). -/
def goneAddress (s : State) (address : Nat) : Bool :=
  (List.finRange 8).any fun k => k.val + 1 == address &&
    ((s.station k).state == .absent || (s.station k).state == .down)

/-- The orders that a normal advance hands the loop controller, with the indexes of their cues: those of the due ORDER cues whose
station is there (R142). -/
def givenOrders (i : ScreenId) (p : Nat) (s t : State) : List (Nat × Order) :=
  (s.control i).cues.zipIdx.filterMap fun x => match x.1.action with
    | .order address code argument =>
      if x.1.enabled && !x.1.taken && decide (x.1.time ≤ p) && !goneAddress s address then
        some (x.2, ⟨if h : 1 ≤ address ∧ address ≤ 8 then .order ⟨address - 1, by omega⟩ else .broadcast address, code, argument,
          .cue (takingOf t i x.2)⟩)
      else none
    | _ => none

/-- A boundary of the screen from `s` to `t` makes a normal advance at `p`: every cue that is due is taken, and executed in list
order (R136, R140, R141, R142). -/
def AdvanceTaken (i : ScreenId) (p : Nat) (s t : State) : Prop :=
  let cues := (s.control i).cues
  let due (q : Cue) : Prop := q.enabled = true ∧ q.taken = false ∧ q.time ≤ p
  let last (P : Cue → Prop) (n : Nat) (q : Cue) : Prop := LastCue cues (fun q => due q ∧ P q) n q
  let without (P : Cue → Prop) : Prop := ∀ q ∈ cues, due q → ¬ P q
  let room := 32 - ordersHeld s
  let given := givenOrders i p s t
  let late (n : Nat) : Prop := room ≤ (given.filter fun x => decide (x.1 < n)).length
  (t.control i).cues.length = cues.length ∧ (t.control i).lastEvaluated = some p ∧
    (∀ (n : Nat) (q q' : Cue), cues[n]? = some q → (t.control i).cues[n]? = some q' →
      (q'.time, q'.action, q'.enabled) = (q.time, q.action, q.enabled) ∧ (¬ due q → CueStands s i n q q') ∧
        (due q → q'.taken = true ∧ (match q.action with
          | .fade _ _ => q'.outcome = .done
          | .source _ => q'.outcome = .done
          | .lock _ => q'.outcome = .done
          | .preset _ => q'.outcome = .none
          | .lineSet l => (TakesFrom s l i → q'.outcome = .done) ∧ (¬ TakesFrom s l i → q'.outcome = .none)
          | .lineClear l => (TakesFrom s l i → q'.outcome = .done) ∧ (¬ TakesFrom s l i → q'.outcome = .none)
          | .linePulse l _ => (TakesFrom s l i → q'.outcome = .done) ∧ (¬ TakesFrom s l i → q'.outcome = .none)
          | .order address _ _ => (late n → q'.outcome = .failedQueue) ∧
            (¬ late n → q'.outcome = if goneAddress s address then .failedStation else .pending)))) ∧
    (∀ n q v d, last (fun q => ∃ v d, q.action = .fade v d) n q → q.action = .fade v d →
      (t.control i).move = if d = 0 then .setNext v else .fade (t.control i).fader v d 0) ∧
    (without (fun q => ∃ v d, q.action = .fade v d) → (t.control i).move = steppedMove s i) ∧
    (∀ n q v, last (fun q => ∃ v, q.action = .source v) n q → q.action = .source v →
      (t.screen i).renderer.selected = v) ∧
    (without (fun q => ∃ v, q.action = .source v) →
      (t.screen i).renderer.selected = (s.screen i).renderer.selected) ∧
    (∀ n q on, last (fun q => ∃ on, q.action = .lock on) n q → q.action = .lock on → (t.control i).lock = on) ∧
    (without (fun q => ∃ on, q.action = .lock on) → (t.control i).lock = (s.control i).lock) ∧
    (∀ n q k, last (fun q => ∃ k, q.action = .preset k) n q → q.action = .preset k →
      (t.equaliser i).pending = some ⟨k, .cue (takingOf t i n)⟩) ∧
    (without (fun q => ∃ k, q.action = .preset k) → (s.equaliser i).pending = none → (t.equaliser i).pending = none) ∧
    (∀ l,
      let switches (q : Cue) : Prop := q.action = .lineSet l ∨ q.action = .lineClear l
      let pulses (q : Cue) : Prop := ∃ d, q.action = .linePulse l d
      (¬ TakesFrom s l i → (t.line l).flag = (s.line l).flag ∧ PulseCounted s i l (t.line l)) ∧
        (TakesFrom s l i →
          (∀ n q, last switches n q → ((t.line l).flag = true ↔ q.action = .lineSet l)) ∧
          (without switches → (t.line l).flag = (s.line l).flag) ∧
          (∀ n q d, last pulses n q → q.action = .linePulse l d →
            (t.line l).pulse = d ∧ (t.line l).pulseScreen = some i) ∧
          (without pulses → PulseCounted s i l (t.line l)))) ∧
    ∃ congested : Bool,
      (congested = true ↔ s.loop.congested = true ∨ ∃ (n : Nat) (q : Cue), cues[n]? = some q ∧ due q ∧ late n ∧
        ∃ address code argument, q.action = .order address code argument) ∧
      t.loop = (arbitrate { s with loop := { s.loop with
        queue := s.loop.queue ++ (given.take room).map Prod.snd, congested := congested } }).loop

/-- A boundary of the screen from `s` to `t` makes a chase to `n`, from `from_` or as a start chase: cues are untaken, taken and
marked, the last of each chase group acts in instant form, and in a backward chase the groups without one return to the opening
state; no pulse and no order results (R137, R138). -/
def ChaseTaken (i : ScreenId) (from_ : Option Nat) (n : Nat) (s t : State) : Prop :=
  let cues := (s.control i).cues
  let backward : Prop := ∃ o, from_ = some o ∧ n ≤ o
  let reached (q : Cue) : Prop := q.enabled = true ∧ q.time ≤ n
  let applied (P : Cue → Prop) (m : Nat) (q : Cue) : Prop := LastCue cues (fun q => reached q ∧ P q) m q
  let without (P : Cue → Prop) : Prop := ∀ q ∈ cues, reached q → ¬ P q
  let ofFader (q : Cue) : Prop := ∃ v d, q.action = .fade v d
  let ofPreset (q : Cue) : Prop := ∃ k, q.action = .preset k
  let ofSource (q : Cue) : Prop := ∃ v, q.action = .source v
  let ofLock (q : Cue) : Prop := ∃ on, q.action = .lock on
  let ofLine (l : LineId) (q : Cue) : Prop := q.action = .lineSet l ∨ q.action = .lineClear l
  let settled (k : PresetId) : Prop := (t.equaliser i).active = k ∧ (t.equaliser i).switch = .none
  (t.control i).cues.length = cues.length ∧ (t.control i).lastEvaluated = some n ∧
    (∀ (m : Nat) (q q' : Cue), cues[m]? = some q → (t.control i).cues[m]? = some q' →
      (q'.time, q'.action, q'.enabled) = (q.time, q.action, q.enabled) ∧
        (n < q.time → (backward → q'.taken = false ∧ q'.outcome = .none) ∧ (¬ backward → CueStands s i m q q')) ∧
        (q.time ≤ n → q.enabled = false → CueStands s i m q q') ∧
        (reached q → q'.taken = true) ∧
        (reached q → (∀ P, P = ofFader ∨ P = ofPreset ∨ P = ofSource ∨ P = ofLock ∨ (∃ l, P = ofLine l) → ¬ applied P m q) →
          (q.taken = false → q'.outcome = .none) ∧ (q.taken = true → CueStands s i m q q')) ∧
        (applied ofFader m q ∨ applied ofSource m q ∨ applied ofLock m q → q'.outcome = .done) ∧
        (∀ k, applied ofPreset m q → q.action = .preset k →
          (¬ settled k → q'.outcome = .none ∧ (t.equaliser i).pending = some ⟨k, .cue (takingOf t i m)⟩) ∧
          (settled k → (s.equaliser i).pending = none → q'.outcome = .done ∧ (t.equaliser i).pending = none)) ∧
        ∀ l, applied (ofLine l) m q →
          (TakesFrom s l i → q'.outcome = .done ∧ ((t.line l).flag = true ↔ q.action = .lineSet l)) ∧
          (¬ TakesFrom s l i → q'.outcome = .none)) ∧
    (∀ m q v d, applied ofFader m q → q.action = .fade v d → (t.control i).move = .setNext v) ∧
    (∀ m q v, applied ofSource m q → q.action = .source v → (t.screen i).renderer.selected = v) ∧
    (∀ m q on, applied ofLock m q → q.action = .lock on → (t.control i).lock = on) ∧
    (∀ l, PulseCounted s i l (t.line l) ∧ (¬ TakesFrom s l i → (t.line l).flag = (s.line l).flag)) ∧
    (¬ backward →
      (without ofFader → (t.control i).move = steppedMove s i) ∧
      (without ofSource → (t.screen i).renderer.selected = (s.screen i).renderer.selected) ∧
      (without ofLock → (t.control i).lock = (s.control i).lock) ∧
      (without ofPreset → (s.equaliser i).pending = none → (t.equaliser i).pending = none) ∧
      ∀ l, without (ofLine l) → (t.line l).flag = (s.line l).flag) ∧
    (∀ o, backward → (s.control i).opening = some o →
      (without ofFader → (t.control i).move = .setNext o.fader) ∧
      (without ofSource → (t.screen i).renderer.selected = o.source) ∧
      (without ofLock → (t.control i).lock = o.lock) ∧
      (without ofPreset →
        (¬ settled o.preset → (t.equaliser i).pending = some ⟨o.preset, .openingReturn⟩) ∧
        (settled o.preset → (s.equaliser i).pending = none → (t.equaliser i).pending = none)) ∧
      ∀ l, without (ofLine l) → (o.lines.map Prod.fst).Nodup →
        (∀ on, (l, on) ∈ o.lines → TakesFrom s l i → (t.line l).flag = on) ∧
        ((∀ on, (l, on) ∉ o.lines) → (t.line l).flag = (s.line l).flag)) ∧
    t.loop = (arbitrate s).loop

/-- A boundary of the screen from `s` to `t` makes the evaluation. -/
def EvaluationMade (i : ScreenId) (e : Evaluation) (s t : State) : Prop :=
  match e with
  | .none => NothingTaken i s t
  | .start p => ChaseTaken i none p s t
  | .advance p => AdvanceTaken i p s t
  | .chase o n => ChaseTaken i (some o) n s t

/-! ### The arithmetic of a sample -/

/-- The nearer end of the sample range for a value outside it (3.3). -/
def ends24 (v : Int) : Int := max (-8388608) (min 8388607 v)

/-- A sum of products with gains, divided by 2^20 and rounded half up (R43, R46). -/
def rounded20 (v : Int) : Int := (v + 524288) / 1048576

/-- A section takes a sample `x` and gives `y`: the products with its coefficients are summed exactly, divided by 2^22, rounded half up
and saturated, and its state moves on (R47). -/
def SectionStep (q : Biquad) (x y : Int) (q' : Biquad) (clip : Bool) : Prop :=
  let sum := q.coef.b0.toInt * x + q.coef.b1.toInt * q.x1.toInt + q.coef.b2.toInt * q.x2.toInt
    - q.coef.a1.toInt * q.y1.toInt - q.coef.a2.toInt * q.y2.toInt
  let raw := (sum + 2097152) / 4194304
  y = ends24 raw ∧ (clip = true ↔ y ≠ raw) ∧
    q' = { q with x1 := BitVec.ofInt 24 x, x2 := q.x1, y1 := BitVec.ofInt 24 y, y2 := q.y1 }

/-- A sample `x` runs through the sections of a chain in order, each the input of the next, and comes out as `y` with a number of
clip events; `slots` and `slots'` are the pool before and after (R48, R53). -/
def ChainRun (slots slots' : Vector Biquad 384) : List SlotId → Int → Int → Nat → Prop
  | [], x, y, clips => y = x ∧ clips = 0
  | k :: rest, x, y, clips => ∃ m clip n, SectionStep (Tab.get slots k) x m (Tab.get slots' k) clip ∧
      ChainRun slots slots' rest m y n ∧ clips = n + clip.toNat

/-- The exact sum of a row's terms, their levels raised by `adjust`, on the channels that `read` gives (R43). -/
def termsValue (read : ChannelId → Int) (adjust : Int) (terms : List Term) : Int :=
  (terms.map fun t => (if t.negative then -1 else 1) * (read t.channel * (gain (t.level + adjust) : Int))).sum

/-- A path of a feed from the render output `r` to the end of its chain: delay, level, sections (R44, R46, R48). -/
def PathRun (c : Screen) (f : FeedId) (slots slots' : Vector Biquad 384) (r : Int) (record : FeedRecord) (trim y : Int)
    (clips : Nat) : Prop :=
  let surround := match c.renderer.current.rows with
    | some rows => if (Tab.get rows f).surround then c.renderer.current.surroundDelay.getD 0 else 0
    | none => 0
  let delay := min 3600 (record.delay + surround)
  let x : Int := if delay = 0 then r else ((Tab.get c.path.feeds f).memory.getD (delay - 1) 0#24).toInt
  let level := min c.path.levels.fader c.path.levels.ceiling + c.path.levels.offset + trim
    + (if Tab.get c.path.levels.hot f then -60 else 0)
  let raw := rounded20 (x * (gain level : Int))
  ∃ n, ChainRun slots slots' record.chain (ends24 raw) y n ∧ clips = n + (if ends24 raw = raw then 0 else 1)

/-- The surround filter acts: it is held, and MATRIX is rendered (R25). -/
def Filtering (c : Screen) : Bool :=
  match c.renderer.filter with
  | .held _ _ => decide (c.renderer.current.format = .program 2)
  | .short => false
  | .notHeld => false

/-- The states agree on working memory outside the completion table, the alarm table and the store. -/
def SameWork (s u : State) : Prop :=
  u.power = s.power ∧ u.straps = s.straps ∧ u.houseTime = s.houseTime ∧ u.screens = s.screens ∧ u.nonSync = s.nonSync ∧
    u.pool = s.pool ∧ u.scanner = s.scanner ∧ u.calibration = s.calibration ∧ u.lines = s.lines ∧ u.loop = s.loop ∧
    u.safety = s.safety ∧ u.ports = s.ports

/-- In the store of `u` every record but one keeps its map entry and its fault mark, and every place but one keeps what it
holds and whether it is RETIRED (R187). -/
def SameStoreBut (r : RecordId) (q : PlaceId) (s u : State) : Prop :=
  (∀ r', r' ≠ r → Tab.get u.store.map r' = Tab.get s.store.map r' ∧ Tab.get u.store.faults r' = Tab.get s.store.faults r') ∧
    ∀ q', q' ≠ q → Tab.get u.store.places q' = Tab.get s.store.places q' ∧
      Tab.get u.store.retired q' = Tab.get s.store.retired q'

/-- A running RECALL reads only records of the target it was given (R191). -/
def RecallInTarget (s : State) : Prop :=
  ∀ ticket t selector left outcomes, s.store.op = .recallStored ticket t selector left outcomes →
    ∀ r ∈ left, r ∈ targetRecords t

/-- The position of the show clock before a boundary agrees with what the lane hands over there: a block that follows it, or a
jump that names it (R11, R134). -/
def HandedAfter (q : Nat) : Option Report → Prop
  | some (.normal p) => p = nextPosition q
  | some (.jump o _) => o = q
  | some (.streamLost p) => p = nextPosition q
  | some (.streamLocked _) => True
  | none => True

/-- The cues taken are those enabled at or before the clock's position; before the clock has one, none is (R136, R137). -/
def TakenUpTo (c : ShowControl) : Prop :=
  ∀ q ∈ c.cues, q.enabled = true → (q.taken = true ↔ ∃ p, c.clock.position = some p ∧ q.time ≤ p)

/-- The feed's line takes part in the watch rotation (R85). -/
def InRotation (s : State) (n : SenseLine) : Prop :=
  lineEnabled (s.screen (lineFeed n).1) (lineFeed n).2 = true

/-- The line that a rotation slot converts: of the lines that `open_` leaves, the lowest above the pointer, or the lowest of
all (R85). -/
def NextLine (pointer : Option SenseLine) (open_ : SenseLine → Prop) (n : SenseLine) : Prop :=
  open_ n ∧ ((∃ p, pointer = some p ∧ p < n ∧ ∀ m, open_ m → p < m → n ≤ m) ∨
    ((∀ p, pointer = some p → ∀ m, open_ m → m ≤ p) ∧ ∀ m, open_ m → n ≤ m))

/-- The six slot-14 words of a well-formed descriptor, in the order of their arrival (12.1). -/
def WellFormedWords (w0 w1 w2 w3 w4 w5 : Word) : Prop := w0 = 0xC3A51E#24 ∧ w5 = w0 + w1 + w2 + w3 + w4

/-- The five slot-14 words before the one that arrives (R5). -/
def Lane.heard (l : Lane) (w0 w1 w2 w3 w4 : Word) : Prop :=
  l.words.take 5 = [some w4, some w3, some w2, some w1, some w0]

end Sys2Proof.Machine
end

