-- ==== Sys2Proof/Certificates/Slice0/Obligations.lean ====
section
/-!
DEFINITION. The statements for the provers.
-/

open Sys2Proof Sys2Proof.Machine

/-! ### The queue and the windows -/

/-- 95: a step takes the command at the front of the queue and runs it with the queue's rest.  That an empty queue idles is the
model's choice (log 10). -/
def Obligations.StepRunsTheFrontCommand : Prop :=
  (∀ (c : Instr) (rest : List Instr) (s : State), step (s.withQueue (c :: rest)) = exec c (s.withQueue rest)) ∧
    ∀ s : State, s.pending = [] → step s = .next s

/-- Every command answers a next state in every state, and leaves the queue of waiting commands as it is.  That an event whose
condition does not hold changes nothing is the model's choice (log 16). -/
def Obligations.EveryCommandAnswersANextState : Prop :=
  ∀ (c : Instr) (s : State), ∃ t, exec c s = .next t ∧ t.pending = s.pending

/-- R173, R198: a window's bytes name exactly one command, and a command's window names it back; an opcode outside the table
names INVALID_OPCODE and nothing else. -/
def Obligations.WindowNamesItsCommand : Prop :=
  (∀ (p : PortId) (bytes : List Byte) (c : Instr), decodeWindow p bytes = some c → c.window = some (p, bytes)) ∧
    (∀ (p : PortId) (bytes : List Byte) (c : Instr), c.window = some (p, bytes) →
      (∀ q op params, c = .invalidOpcode q op params → parameterCounts op = none ∧ op ≠ 0xFF#8) →
      decodeWindow p bytes = some c) ∧
    ∀ (p : PortId) (op : Byte) (params : List Byte),
      decodeWindow p (op :: params) = some (.invalidOpcode p op params) ↔ (parameterCounts op = none ∧ op ≠ 0xFF#8)

/-- R173, R175: a port command that is executed leaves one result record of its opcode in its port, which enters RESULT.  A
REFUSED result has no payload, and changes nothing else but what R154 and R178 say of a full queue and a closed staging. -/
def Obligations.ExecutedCommandLeavesOneResult : Prop :=
  ∀ (c : Instr) (s : State) (p : PortId) (op : Byte) (params : List Byte), c.window = some (p, op :: params) →
    op ≠ 0xFF#8 → (∀ q o ps, c = .invalidOpcode q o ps → parameterCounts o = none) → Executing s p op params →
    ∃ (u : State) (r : ResultRecord), exec c s = .next (placeResult u p r) ∧ r.opcode = op ∧
      (r.termination = .refused → r.payload = [] ∧ (op ≠ 0x1C#8 → op ≠ 0x22#8 → u = s) ∧
        (op = 0x1C#8 → u = s ∨ u = startCongestion s) ∧ (op = 0x22#8 → u = s ∨ u = closeStaging s p))

/-- R173, R198: parameter bytes more or fewer than the command takes are refused with BAD_LENGTH, a parameter outside its range
with BAD_ARGUMENT, ahead of every other check of its command, and an opcode that names no command with INVALID_OPCODE; none
changes anything else. The ranges are those of R198 and of each command's rule; a CLOSE LOAD has its own statement. -/
def Obligations.WindowJudgementRefuses : Prop :=
  (∀ (c : Instr) (s : State) (p : PortId) (op : Byte) (params : List Byte) (counts : List Nat),
    c.window = some (p, op :: params) → parameterCounts op = some counts → params.length ∉ counts →
    (∀ q o ps, c ≠ .invalidOpcode q o ps) → Executing s p op params →
    exec c s = .next (refused s p op .badLength)) ∧
  (∀ (c : Instr) (s : State) (p : PortId) (op : Byte) (params : List Byte) (counts : List Nat),
    c.window = some (p, op :: params) → parameterCounts op = some counts → params.length ∈ counts →
    (∀ q o ps, c ≠ .invalidOpcode q o ps) → Executing s p op params → outOfRange op params = true →
    exec c s = .next (refused s p op .badArgument)) ∧
  ∀ (s : State) (p : PortId) (op : Byte) (params : List Byte), parameterCounts op = none → op ≠ 0xFF#8 →
    Executing s p op params → exec (.invalidOpcode p op params) s = .next (refused s p op .invalidOpcode)

/-- R174: outside EXECUTE, or with another window, a port command is not executed: nothing changes.  That such a command changes
nothing is the model's choice (logs 7, 16). -/
def Obligations.CommandOutsideExecuteDoesNothing : Prop :=
  ∀ (c : Instr) (s : State) (p : PortId) (op : Byte) (params : List Byte), c.window = some (p, op :: params) →
    op ≠ 0xFF#8 → Running s → (s.port p).phase ≠ .execute ∨ (s.port p).command ≠ op :: params → exec c s = .next s

/-- R172, R173, R174: what the end of a window does by the phase in which it began. A window of no whole byte in READY changes
only the bytes shifted out; a command's bytes are kept for its execution; a result window consumes the result; a window in
EXECUTE leaves the phase.  That a whole window is one event is the model's choice (log 7). -/
def Obligations.WindowsMoveThePhase : Prop :=
  (∀ (s : State) (p : PortId) (b : Byte) (rest : List Byte), Running s →
    (s.port p).phase = .ready ∨ (s.port p).phase = .command → b ≠ 0xFF#8 →
    ∃ out, exec (.commandPhaseEnd p (b :: rest)) s =
        .next (s.modPort p fun q => { q with phase := .execute, command := b :: rest, dataOut := out }) ∧
      out.length = rest.length + 1) ∧
  (∀ (s : State) (p : PortId), Running s → (s.port p).phase = .ready →
    exec (.commandPhaseEnd p []) s = .next (s.modPort p fun q => { q with dataOut := [statusByte s p .ready] })) ∧
  (∀ (s : State) (p : PortId) (bytes : List Byte) (r : ResultRecord), Running s → (s.port p).phase = .result →
    (s.port p).result = some r → bytes.head? ≠ some 0xFF#8 →
    exec (.resultWindow p bytes) s = .next (s.modPort p fun q =>
      { q with
        phase := .ready
        result := none
        dataOut := statusByte s p .result :: (r.bytes ++ List.replicate bytes.length 0#8).take (bytes.length - 1) })) ∧
  ∀ (s : State) (p : PortId) (bytes : List Byte), Running s → (s.port p).phase = .execute →
    bytes.head? ≠ some 0xFF#8 →
    ∃ out count, exec (.executeWindow p bytes) s =
        .next { s.modPort p fun q => { q with dataOut := out } with freeCount := count } ∧
      out.head? = some (statusByte s p .execute)

/-- R185: PORT RESET is taken in READY, EXECUTE and RESULT.  The port's staging is closed, its result discarded and its phase
READY; its access entry and everything outside the port stay (but the model's own count of free values, log 8).  That a
command whose execution was still to come is dropped with its phase is the model's choice (log 7). -/
def Obligations.PortResetLeavesThePortReady : Prop :=
  ∀ (s : State) (p : PortId) (rest : List Byte) (c : Instr), Running s →
    (c = .portReset p rest ∨
      (c = .commandPhaseEnd p (0xFF#8 :: rest) ∧ ((s.port p).phase = .ready ∨ (s.port p).phase = .command)) ∨
      (c = .resultWindow p (0xFF#8 :: rest) ∧ (s.port p).phase = .result) ∨
      (c = .executeWindow p (0xFF#8 :: rest) ∧ (s.port p).phase = .execute)) →
    ∃ out count, exec c s = .next { s.modPort p fun q =>
      { q with phase := .ready, command := [], result := none, staging := .closed, dataOut := out } with freeCount := count }

/-- R184, 12.2: ATN is asserted exactly while a cause stands, and the status byte shows phase, ready flag, direction and ATN. -/
def Obligations.AttentionAndStatusByte : Prop :=
  ∀ (s : State) (p : PortId),
    (attention s p = true ↔
      (∃ e ∈ s.completions.entries, e.owner = p ∧ e.done.isSome = true) ∨
      (∃ r ∈ s.alarms.ordinary ++ s.alarms.overflow.toList, (r.state = .raised ∨ r.state = .ended) ∧
        ∀ i, r.scope.screen? = some i → Covers s p i) ∨
      ∃ i, Covers s p i ∧ (s.screen i).lane.notice.count ≠ .zero) ∧
    ∀ phase : Phase,
      (statusByte s p phase).extractLsb' 6 2 = (match phase with
        | .ready => 0#2
        | .command => 1#2
        | .execute => 2#2
        | .result => 3#2) ∧
      (statusByte s p phase).getLsbD 5 = (phase != .execute) ∧ (statusByte s p phase).getLsbD 4 = (phase == .result) ∧
      (statusByte s p phase).getLsbD 3 = attention s p ∧ (statusByte s p phase).extractLsb' 0 3 = 0#3

/-- R182: COLLECT returns the port's entry that became DONE first and takes it out of the table; without one it answers none
and leaves the table.  RUNNING entries and those of other ports stay.  The presence byte before the entry, 0 for none, is the
model's choice (log 12). -/
def Obligations.CollectTakesTheFirstDone : Prop :=
  ∀ (s : State) (p : PortId), Executing s p 0x0B#8 [] → CompletionsSound s →
    ((∀ e ∈ s.completions.entries, e.owner = p → e.done = none) →
      exec (.collect p []) s = .next (answered s p 0x0B#8 [0#8])) ∧
    ∀ (e : Entry) (d : Completed), e ∈ s.completions.entries → e.owner = p → e.done = some d →
      (∀ e' ∈ s.completions.entries, ∀ d', e'.owner = p → e'.done = some d' → e' = e ∨ d.order < d'.order) →
      exec (.collect p []) s =
        .next (answered { s with completions := { s.completions with entries := s.completions.entries.erase e } } p 0x0B#8
          ([1#8, BitVec.ofNat 8 e.ticket] ++ byte e.kind.code ++ byte (terminationCode d.termination)
            ++ byte (reasonCode d.reason) ++ d.payload))

/-! ### Reading commands -/

/-- R17, R39, R79, R104, R105, R121, R133, R148, R164, R176: on any port the reading commands answer NORMAL, OK with the items
of their rules as they stand, and change nothing else. LOCATE answers the index and the time of the first cue at the time, the
last at or before it, or the first at or after it, and NONE where no cue matches. The order of the items that a rule names in
prose, and the list by which it names a value, are deduced, and which items have or share a presence byte, the base of a resend
position, that the number of queued orders is the count byte of their list that a fixed table has no count byte and that a scope
is the two bytes of ACK ALARM are the model's choice (log 12); the show position is that of the block being rendered, so that
none is given between a lock and the first aligned boundary, and one is given in ABSENT until the block of loss has been
rendered, again the model's choice (log 21). -/
def Obligations.ReadingChangesNothing : Prop :=
  ∀ (s : State) (p : PortId),
    (∀ i : ScreenId, Executing s p 0x01#8 [numberParam i] →
      let c := s.screen i
      let l := c.lane
      let r := c.renderer
      let k := c.control
      let set := c.settings
      let inStream : Bool := decide (l.stream = .locked ∨ l.stream = .holdover)
      let clock : Nat × Option Nat × Option Nat := match k.clock with
        | .none => (0, none, none)
        | .waiting => (1, none, none)
        | .tracking q => (2, some q, none)
        | .freeRun q n => (3, some q, some n)
        | .frozen q => (4, some q, none)
      let stream : List Byte :=
        byte (match l.stream with
          | .absent => 0
          | .search => 1
          | .verify => 2
          | .locked => 3
          | .holdover => 4)
        ++ byte l.missCount ++ optional byte (if inStream then l.expected else none)
        ++ optional (bytesOf 3) (l.rendering.report.map Report.position)
        ++ byte l.format.val ++ optional (fun x => byte x.val) l.formatCandidate ++ flagByte l.formatUnknown
        ++ signedBytes 2 (if inStream then l.heldOffset else 0) ++ bytesOf 2 l.heldMask.toNat
      let render : List Byte :=
        byte (sourceCode r.selected) ++ byte (if set.fallbackNonsync then 1 else 2) ++ byte (sourceCode r.current.source)
        ++ (match r.current.format with
          | .none => [0#8]
          | .program x => 1#8 :: byte x.val
          | .ns => [1#8, 7#8])
        ++ byte (match r.ramp with
          | .steady => 0
          | .rampOut => 1
          | .rampIn => 2)
        ++ (match r.filter with
          | .held a b => 0#8 :: (bytesOf 2 a.val ++ bytesOf 2 b.val)
          | .short => [1#8]
          | .notHeld => [2#8])
        ++ bytesOf 2 set.surroundDelay ++ byte (termTotal r.table)
        ++ listed (fun x => numberByte x.1 ++ numberByte x.2)
          ((List.finRange 16).flatMap fun f => (List.finRange 16).filterMap fun g =>
            if (Tab.get r.covers g).steady = some f ∨ (Tab.get r.covers g).joining = some f then some (f, g) else none)
      let calibration : List Byte :=
        listed (fun x => byte x.1.ticket ++ byte (x.2 + 1)
            ++ byte (if 0 < x.2 then 0 else if x.1.tone.isSome then 2 else 1) ++ maskBytes x.1.mask)
          (s.calibration.zipIdx.filter fun x => x.1.screen == i)
        ++ (match s.calibration with
          | [] => [0#8, 0#8]
          | q :: _ => match q.tone with
            | some x => if q.screen = i then 1#8 :: (numberByte x.feed ++ signedBytes 2 (-660 + 60 * x.step) ++ byte x.block
                ++ [1#8]) else [0#8, 0#8]
            | none => [0#8, 0#8])
      let show_ : List Byte :=
        byte (match k.state with
          | .dark => 0
          | .idle => 1
          | .inShow => 2)
        ++ flagByte k.sleepHeld ++ signedBytes 2 k.fader
        ++ (match k.move with
          | .fade _ target d n => 1#8 :: (signedBytes 2 target ++ bytesOf 2 (d - n))
          | .setNext _ => [0#8]
          | .hold => [0#8])
        ++ flagByte k.lock ++ byte clock.1 ++ optional (bytesOf 3) clock.2.1 ++ optional (bytesOf 2) clock.2.2
        ++ flagByte k.suspension.isSome ++ optional (bytesOf 3) (k.suspension.getD none) ++ flagByte k.evacuationMute
        ++ optional (fun o => signedBytes 2 o.fader ++ byte o.preset.val ++ byte (sourceCode o.source)
          ++ maskBytes (lineMask o.lines) ++ flagByte o.lock) k.opening
        ++ bytesOf 2 k.cues.length ++ bytesOf 2 (k.cues.filter Cue.taken).length
        ++ optional byte (k.cues.findIdx? fun q => q.enabled && !q.taken)
        ++ byte (match set.powerOnState with
          | .dark => 0
          | .idle => 1)
        ++ flagByte set.autoStart ++ flagByte set.autoEnd ++ flagByte set.lockAtStart ++ bytesOf 2 set.freeRunLimit
      exec (.readScreen p [numberParam i]) s = .next (answered s p 0x01#8 (stream ++ render ++ calibration ++ show_))) ∧
    (∀ (i : ScreenId) (f : FeedId), Executing s p 0x03#8 [numberParam i, numberParam f] →
      let c := s.screen i
      let r := Tab.get c.feeds f
      let running := Tab.get c.equaliser.running f
      let cover := Tab.get c.settings.cover f
      exec (.readFeed p [numberParam i, numberParam f]) s = .next (answered s p 0x03#8
        (flagByte r.dead ++ flagByte r.hot ++ flagByte r.overLevel ++ flagByte r.clip ++ byte r.deadCount ++ byte r.hotCount
          ++ byte r.coolCount ++ byte r.overCount ++ byte r.underCount ++ byte r.clipFreeCount
          ++ flagByte (c.settings.senseFitted.getLsbD f.val)
          ++ (match r.calibration with
            | some (tcal, scal) => [0#8, 1#8] ++ signedBytes 2 tcal ++ bytesOf 2 scal
            | none => [1#8, 0#8])
          ++ optional (bytesOf 2) r.lastSense ++ optional (bytesOf 2) r.latest
          ++ signedBytes 1 running.trim ++ bytesOf 2 running.delay ++ byte running.chain.length
          ++ (match c.equaliser.incoming with
            | some v => 1#8 :: (signedBytes 1 (Tab.get v f).trim ++ bytesOf 2 (Tab.get v f).delay)
            | none => [0#8])
          ++ optional numberByte cover
          ++ flagByte (match cover with
            | some g => decide ((Tab.get c.renderer.covers g).steady = some f ∨ (Tab.get c.renderer.covers g).joining = some f)
            | none => false)))) ∧
    (∀ start : Byte, start.toNat ≤ 63 → Executing s p 0x04#8 [start] →
      exec (.readAlarms p [start]) s = .next (answered s p 0x04#8
        (byte s.alarms.ordinary.length ++ flagByte s.alarms.overflowStands
          ++ listed (fun x => byte x.2 ++ byte (alarmKindCode x.1.kind) ++ scopeBytes x.1.scope
              ++ byte (match x.1.state with
                | .raised => 0
                | .held => 1
                | .ended => 2)
              ++ bytesOf 4 x.1.firstRaised.toNat ++ bytesOf 4 x.1.lastChange.toNat ++ byte x.1.count)
            (((s.alarms.ordinary.zipIdx ++ (match s.alarms.overflow with
              | some r => [(r, 63)]
              | none => [])).filter fun x => start.toNat ≤ x.2).take 16)))) ∧
    (∀ (i : ScreenId) (start : Byte), Executing s p 0x06#8 [numberParam i, start] →
      let cues := (s.control i).cues
      exec (.readCues p [numberParam i, start]) s = .next (answered s p 0x06#8
        (bytesOf 2 cues.length ++ bytesOf 2 (256 - ((List.finRange 4).map fun j => (s.control j).cues.length).sum)
          ++ listed (fun x => byte x.2 ++ bytesOf 3 x.1.time
              ++ (match x.1.action with
                | .fade target d => 1#8 :: (signedBytes 2 target ++ bytesOf 2 d)
                | .preset n => 2#8 :: byte n.val
                | .source v => 3#8 :: byte (sourceCode v)
                | .lineSet l => 4#8 :: numberByte l
                | .lineClear l => 5#8 :: numberByte l
                | .linePulse l d => 6#8 :: (numberByte l ++ bytesOf 2 d)
                | .order address code argument => 7#8 :: (byte address ++ byte code ++ bytesOf 2 argument)
                | .lock on => 8#8 :: flagByte on)
              ++ flagByte x.1.enabled ++ flagByte x.1.taken
              ++ byte (match x.1.outcome with
                | .none => 0
                | .done => 1
                | .pending => 2
                | .delivered => 3
                | .failedPool => 4
                | .failedQueue => 5
                | .failedStation => 6)) ((cues.zipIdx.drop start.toNat).take 16)))) ∧
    (Executing s p 0x08#8 [] →
      let l := s.loop
      let frame (f : LoopFrame) : List Byte := match f with
        | .order k _ _ _ _ => 1#8 :: numberByte k
        | .broadcast address _ _ _ => 2#8 :: byte address
        | .probe k => 3#8 :: numberByte k
        | .restart k => 4#8 :: numberByte k
      let origin (o : OrderOrigin) : List Byte := match o with
        | .cue ref => 0#8 :: (numberByte ref.screen ++ byte ref.index)
        | .port q => 1#8 :: numberByte q
      let evacuation (o : Option EvacOrder) : List Byte :=
        optional (fun o => byte o.address ++ byte o.code ++ bytesOf 2 o.argument) o
      exec (.readLoop p []) s = .next (answered s p 0x08#8
        ((match l.state with
          | .free => [0#8]
          | .sending f => 1#8 :: frame f
          | .awaiting k _ => 2#8 :: numberByte k)
          ++ listed (fun o => (match o.form with
              | .order k => 1#8 :: numberByte k
              | .broadcast address => 2#8 :: byte address)
            ++ byte o.code ++ bytesOf 2 o.argument ++ origin o.origin) l.queue
          ++ evacuation l.evacuationSlot ++ flagByte l.congested ++ byte l.table.replyTimeout ++ byte l.table.retryLimit
          ++ evacuation l.table.evacuation
          ++ (List.finRange 8).flatMap fun k =>
            let r := s.station k
            byte (match r.state with
              | .absent => 0
              | .joining => 1
              | .up => 2
              | .busy => 3
              | .down => 4)
            ++ byte r.next ++ byte r.oldest
            ++ listed (fun o => byte o.number ++ byte o.code ++ bytesOf 2 o.argument ++ origin o.origin) r.outstanding
            ++ optional byte r.resend ++ byte r.retry ++ optional byte r.zone ++ flagByte r.fault
            ++ (match r.due with
              | none => [0#8]
              | some .probe => [1#8, 3#8]
              | some .restart => [1#8, 4#8])))) ∧
    (Executing s p 0x09#8 [] →
      let each (item : Equaliser → List Byte) : List Byte := (List.finRange 4).flatMap fun i => item (s.equaliser i)
      exec (.readPool p []) s = .next (answered s p 0x09#8
        (bytesOf 2 s.pool.free.length ++ bytesOf 2 (claimedCount s) ++ bytesOf 2 (s.pool.free.length - claimedCount s)
          ++ each (fun e => byte e.active.val)
          ++ each (fun e => match e.switch with
            | .none => [0#8, 0#8]
            | .crossfade r => [1#8, 1#8] ++ byte r.preset.val
            | .cutOut r _ => [2#8, 1#8] ++ byte r.preset.val
            | .cutIn r => [3#8, 1#8] ++ byte r.preset.val)
          ++ each (fun e => match e.pending with
            | none => [0#8]
            | some r => 1#8 :: (byte r.preset.val ++ (match r.origin with
              | .command ticket => 0#8 :: byte ticket
              | .cue _ => [1#8]
              | .openingReturn => [1#8])))
          ++ ((List.finRange 4).flatMap fun i =>
            byte (recordSlots (s.equaliser i).running).length
              ++ byte (((s.equaliser i).incoming.map fun v => (recordSlots v).length).getD 0)
              ++ byte (match (s.screen i).renderer.filter with
                | .held _ _ => 2
                | .short => 0
                | .notHeld => 0))
          ++ each (fun e => (List.finRange 16).flatMap fun f => byte (Tab.get e.running f).chain.length)
          ++ each (fun e => flagByte e.commissioned.isSome)
          ++ each (fun e => flagByte e.poolShort)))) ∧
    ∀ (i : ScreenId) (mode t2 t1 t0 : Byte), mode.toNat ≤ 2 → Executing s p 0x07#8 [numberParam i, mode, t2, t1, t0] →
      let cues := (s.control i).cues
      let time := (t2 ++ t1 ++ t0 : BitVec 24).toNat
      let fits (q : Cue) : Prop := match mode.toNat with
        | 0 => q.time = time
        | 1 => q.time ≤ time
        | _ => time ≤ q.time
      ((∀ q ∈ cues, ¬ fits q) →
        exec (.locate p [numberParam i, mode, t2, t1, t0]) s = .next (answered s p 0x07#8 [0#8])) ∧
      ∀ (n : Nat) (q : Cue), cues[n]? = some q → fits q →
        (∀ (m : Nat) (r : Cue), cues[m]? = some r → fits r → if mode.toNat = 1 then m ≤ n else n ≤ m) →
        exec (.locate p [numberParam i, mode, t2, t1, t0]) s =
          .next (answered s p 0x07#8 ([1#8] ++ byte n ++ bytesOf 3 q.time))

/-- R16, R106: READ NOTICE and READ METERS answer what they read and empty it for every port; nothing else changes. The order of
payload items is deduced, and that the more flag has no presence byte and the meters of the sixteen feeds no count byte is the
model's choice (log 12). -/
def Obligations.ReadNoticeAndMetersEmpty : Prop :=
  ∀ (s : State) (p : PortId) (i : ScreenId),
    (Executing s p 0x0A#8 [numberParam i] →
      exec (.readNotice p [numberParam i]) s =
        .next (answered (s.modLane i fun l => { l with notice := .empty }) p 0x0A#8 (s.screen i).lane.notice.bytes)) ∧
    (Executing s p 0x02#8 [numberParam i] →
      exec (.readMeters p [numberParam i]) s =
        .next (answered (s.modFeeds i fun v => Tab.map (fun r => { r with peakHold := 0, clipsSinceRead := 0 }) v) p 0x02#8
          ((Tab.list (s.screen i).feeds).flatMap (fun r =>
              signedBytes 2 (powerReport r.lastMean) ++ signedBytes 2 (peakReport r.lastPeak)
                ++ signedBytes 2 (peakReport r.peakHold) ++ bytesOf 2 r.clipsSinceRead)
            ++ signedBytes 1 (s.screen i).governor.ceiling ++ flagByte (decide ((s.screen i).governor.ceiling < 0))
            ++ byte (s.screen i).governor.completed ++ bytesOf 6 (s.screen i).governor.windowSum)))

/-! ### Commands of the show -/

/-- R28, R129, R130: SET LEVEL, FADE and SET LOCK, with their clamps, change the fader's move or the lock, and SELECT SOURCE the
selected source, answered with the source still rendered; nothing else changes. -/
def Obligations.OperatorCommandsTakeEffect : Prop :=
  ∀ (s : State) (p : PortId) (i : ScreenId), Covers s p i →
    (∀ hi lo : Byte, Executing s p 0x15#8 [numberParam i, hi, lo] →
      let v := max (-960) (min 60 (hi ++ lo : BitVec 16).toInt)
      exec (.setLevel p [numberParam i, hi, lo]) s =
        .next (answered (s.modControl i fun c => { c with move := .setNext v }) p 0x15#8 (signedBytes 2 v))) ∧
    (∀ hi lo dhi dlo : Byte, Executing s p 0x16#8 [numberParam i, hi, lo, dhi, dlo] →
      let v := max (-960) (min 60 (hi ++ lo : BitVec 16).toInt)
      let d := min 6000 (dhi ++ dlo : BitVec 16).toNat
      exec (.fade p [numberParam i, hi, lo, dhi, dlo]) s =
        .next (answered (s.modControl i fun c =>
          { c with move := if d = 0 then .setNext v else .fade c.fader v d 0 }) p 0x16#8
          (signedBytes 2 v ++ bytesOf 2 d))) ∧
    (∀ v : Source, (s.control i).lock = false → Executing s p 0x17#8 [numberParam i, BitVec.ofNat 8 (sourceCode v)] →
      exec (.selectSource p [numberParam i, BitVec.ofNat 8 (sourceCode v)]) s =
        .next (answered (s.modRenderer i fun r => { r with selected := v }) p 0x17#8
          (byte (sourceCode v) ++ byte (sourceCode (s.screen i).renderer.current.source)))) ∧
    ∀ on : Bool, Executing s p 0x19#8 [numberParam i, BitVec.ofNat 8 on.toNat] →
      exec (.setLock p [numberParam i, BitVec.ofNat 8 on.toNat]) s =
        .next (answered (s.modControl i fun c => { c with lock := on }) p 0x19#8
          (flagByte (s.control i).lock ++ flagByte on))

/-- R124, R125: WAKE wakes a DARK screen or withdraws a held SLEEP, and is refused otherwise; SLEEP puts an IDLE screen into
DARK, ending its calibration requests, or is held while a switch runs, leaves a DARK screen, and is refused with WRONG_STATE in
SHOW. -/
def Obligations.WakeAndSleepMoveTheScreen : Prop :=
  ∀ (s : State) (p : PortId) (i : ScreenId), Covers s p i →
    (Executing s p 0x10#8 [numberParam i] →
      ((s.control i).state = .dark →
        exec (.wake p [numberParam i]) s = .next (answered (s.modScreen i fun c =>
          { c with
            control := { c.control with state := .idle }
            equaliser := { c.equaliser with zeroDue := true } }) p 0x10#8 [1#8])) ∧
      ((s.control i).state = .idle → (s.control i).sleepHeld = true →
        exec (.wake p [numberParam i]) s =
          .next (answered (s.modControl i fun c => { c with sleepHeld := false }) p 0x10#8 [1#8])) ∧
      ((s.control i).state = .inShow ∨ ((s.control i).state = .idle ∧ (s.control i).sleepHeld = false) →
        exec (.wake p [numberParam i]) s = .next (refused s p 0x10#8 .wrongState))) ∧
    (Executing s p 0x11#8 [numberParam i] →
      ((s.control i).state = .inShow →
        exec (.sleep p [numberParam i]) s = .next (refused s p 0x11#8 .wrongState)) ∧
      ((s.control i).state = .dark →
        exec (.sleep p [numberParam i]) s =
          .next (answered s p 0x11#8 ([0#8] ++ flagByte (s.control i).sleepHeld))) ∧
      ((s.control i).state = .idle → (s.equaliser i).switch ≠ .none →
        exec (.sleep p [numberParam i]) s =
          .next (answered (s.modControl i fun c => { c with sleepHeld := true }) p 0x11#8 [1#8, 1#8])) ∧
      ((s.control i).state = .idle → (s.equaliser i).switch = .none →
        ∃ u, exec (.sleep p [numberParam i]) s = .next (answered u p 0x11#8 [0#8, 0#8]) ∧
          u.control i = { s.control i with state := .dark, sleepHeld := false } ∧
          u.calibration = s.calibration.filter (fun r => r.screen != i) ∧
          (∀ r ∈ s.calibration, r.screen = i → ∀ e ∈ u.completions.entries, e.ticket = r.ticket → e.done.isSome = true) ∧
          (∀ e ∈ s.completions.entries, e.done = none → (∃ r ∈ s.calibration, r.screen = i ∧ r.ticket = e.ticket) →
            ∃ d, { e with done := some d } ∈ u.completions.entries ∧ d.termination = .abrupt ∧ d.reason = .wrongState) ∧
          SameOthers i s u ∧ u.equaliser i = s.equaliser i ∧ (u.screen i).renderer = (s.screen i).renderer ∧
          (u.screen i).path = (s.screen i).path ∧ (u.screen i).lane = (s.screen i).lane ∧ u.pool = s.pool ∧
          u.loop = s.loop ∧ u.alarms = s.alarms ∧ u.lines = s.lines ∧ u.store = s.store))

/-- R126, R127, R128, R97, R137: START SHOW records the opening state, clears the cues' taken flags, resets the governor and
sets the clock to WAITING; END SHOW returns the screen to IDLE with its lock clear and its fade ended. START SHOW outside IDLE
or with a SLEEP held, and END SHOW outside SHOW, are refused with WRONG_STATE. A boundary of an IDLE screen that hands the
stream-locked report starts the show where auto-start is set, the safety input released, the mute clear and no SLEEP held, with
the clock TRACKING and a start chase to the report's position; where one of these conditions fails no show starts. That a set
level stays for the next block after END SHOW is the model's choice (log 17), and so is that the section pool acts before the
show controller at one boundary, so that the opening preset is the one that stands after it (log 5), and the presence byte of
the last position in END SHOW's payload (log 12). -/
def Obligations.ShowStartsAndEnds : Prop :=
  ∀ (s : State) (p : PortId) (i : ScreenId), Covers s p i →
    (Executing s p 0x12#8 [numberParam i] → s.safety.asserted = false → (s.control i).evacuationMute = false →
      (s.control i).state = .idle → (s.control i).sleepHeld = false →
      ∃ u o, exec (.startShow p [numberParam i]) s = .next (answered u p 0x12#8 (Opening.bytes o)) ∧
        o.fader = (s.control i).fader ∧ o.source = (s.screen i).renderer.selected ∧ o.lock = (s.control i).lock ∧
        o.preset = (match (s.equaliser i).switch with
          | .none => (s.equaliser i).active
          | .crossfade r => r.preset
          | .cutOut r _ => r.preset
          | .cutIn r => r.preset) ∧
        (∀ l b, (l, b) ∈ o.lines ↔ (s.line l).owner = .screen i ∧ (s.line l).flag = b) ∧
        u.control i = { s.control i with
          state := .inShow
          opening := some o
          cues := (s.control i).cues.map fun q => { q with taken := false, outcome := .none }
          lock := (s.control i).lock || (s.screen i).settings.lockAtStart
          clock := .waiting
          suspension := none
          resumeFrom := none
          lastEvaluated := none } ∧
        (u.screen i).governor = .reset ∧ u.calibration = s.calibration.filter (fun r => r.screen != i) ∧
        (∀ e ∈ s.completions.entries, e.done = none → (∃ r ∈ s.calibration, r.screen = i ∧ r.ticket = e.ticket) →
          ∃ d, { e with done := some d } ∈ u.completions.entries ∧ d.termination = .abrupt ∧ d.reason = .wrongState) ∧
        SameOthers i s u ∧ u.equaliser i = s.equaliser i ∧ (u.screen i).renderer = (s.screen i).renderer ∧
        (u.screen i).settings = (s.screen i).settings ∧ (u.screen i).feeds = (s.screen i).feeds ∧ u.pool = s.pool ∧
        u.loop = s.loop ∧ u.lines = s.lines ∧ u.store = s.store ∧ u.ports = s.ports) ∧
    (Executing s p 0x13#8 [numberParam i] → (s.control i).state = .inShow →
      ∃ u, exec (.endShow p [numberParam i]) s =
          .next (answered u p 0x13#8
            (signedBytes 2 (s.control i).fader ++ optional (bytesOf 3) (s.control i).lastEvaluated)) ∧
        u.control i = { s.control i with
          state := .idle
          move := (match (s.control i).move with
            | .fade _ _ _ _ => .hold
            | m => m)
          lock := false
          opening := none
          clock := .none
          suspension := none
          resumeFrom := none } ∧
        (u.screen i).governor = .reset ∧ u.calibration = s.calibration ∧ SameOthers i s u ∧
        u.equaliser i = s.equaliser i ∧ (u.screen i).renderer = (s.screen i).renderer ∧
        (u.screen i).settings = (s.screen i).settings ∧ (u.screen i).feeds = (s.screen i).feeds ∧ u.pool = s.pool ∧
        u.loop = s.loop ∧ u.lines = s.lines ∧ u.store = s.store ∧ u.ports = s.ports) ∧
    (Executing s p 0x12#8 [numberParam i] → s.safety.asserted = false → (s.control i).evacuationMute = false →
      (s.control i).state ≠ .idle ∨ (s.control i).sleepHeld = true →
      exec (.startShow p [numberParam i]) s = .next (refused s p 0x12#8 .wrongState)) ∧
    (Executing s p 0x13#8 [numberParam i] → (s.control i).state ≠ .inShow →
      exec (.endShow p [numberParam i]) s = .next (refused s p 0x13#8 .wrongState)) ∧
    (Running s → boundaryDue (s.screen i) = true → (s.control i).state = .idle →
      (∀ q, handedNext (s.screen i).lane = some (.streamLocked q) → (s.screen i).settings.autoStart = true →
        s.safety.asserted = false → (s.control i).evacuationMute = false → (s.control i).sleepHeld = false →
        ∃ u o, exec (.blockBoundary i) s = .next u ∧ (u.control i).state = .inShow ∧ (u.control i).clock = .tracking q ∧
          (u.control i).opening = some o ∧ o.fader = (u.control i).fader ∧ o.source = (s.screen i).renderer.selected ∧
          o.lock = (s.control i).lock ∧ (∀ l b, (l, b) ∈ o.lines ↔ (s.line l).owner = .screen i ∧ (s.line l).flag = b) ∧
          o.preset = (match (u.equaliser i).switch with
            | .none => (u.equaliser i).active
            | .crossfade r => r.preset
            | .cutOut r _ => r.preset
            | .cutIn r => r.preset) ∧
          (u.control i).suspension = none ∧ (u.control i).resumeFrom = none ∧ (u.control i).lastEvaluated = some q ∧
          cueContent (u.control i).cues = cueContent (s.control i).cues ∧
          (∀ x ∈ (u.control i).cues, x.taken = true ↔ x.enabled = true ∧ x.time ≤ q) ∧
          (u.screen i).governor = .reset ∧ (∀ r ∈ u.calibration, r.screen ≠ i)) ∧
      ((∀ q, handedNext (s.screen i).lane ≠ some (.streamLocked q)) ∨ (s.screen i).settings.autoStart = false ∨
        s.safety.asserted = true ∨ (s.control i).evacuationMute = true ∨ (s.control i).sleepHeld = true →
        ∃ u, exec (.blockBoundary i) s = .next u ∧ (u.control i).state ≠ .inShow ∧
          (u.control i).opening = (s.control i).opening ∧ (u.control i).clock = (s.control i).clock ∧
          (u.control i).cues.map (fun x => (x.time, x.taken)) = (s.control i).cues.map fun x => (x.time, x.taken)))

/-- R170: RESUME of a screen, or of all the screens of the port's mask, clears the mute and the suspension, and a chase from the
suspension position falls due (R139); nothing else changes. A named screen with neither is refused with WRONG_STATE. Keeping the
chase due until the clock has a position is the model's choice (log 17). -/
def Obligations.ResumeClearsMuteAndSuspension : Prop :=
  let after (c : ShowControl) : ShowControl :=
    { c with
      evacuationMute := false
      suspension := none
      resumeFrom := if c.suspension.isSome then c.suspension else c.resumeFrom }
  ∀ (s : State) (p : PortId), s.safety.asserted = false →
    (∀ i : ScreenId, Executing s p 0x14#8 [numberParam i] → Covers s p i →
      (s.control i).evacuationMute = true ∨ (s.control i).suspension.isSome = true →
      exec (.resume p [numberParam i]) s = .next (answered (s.modControl i after) p 0x14#8
        ([1#8, numberParam i] ++ optional (bytesOf 3) ((s.control i).suspension.getD none)))) ∧
    (∀ i : ScreenId, Executing s p 0x14#8 [numberParam i] → Covers s p i →
      (s.control i).evacuationMute = false → (s.control i).suspension = none →
      exec (.resume p [numberParam i]) s = .next (refused s p 0x14#8 .wrongState)) ∧
    (Executing s p 0x14#8 [0#8] →
      ∃ u payload, exec (.resume p [0#8]) s = .next (answered u p 0x14#8 payload) ∧
        (∀ i, u.screen i = if Covers s p i then { s.screen i with control := after (s.control i) } else s.screen i) ∧
        SameDevice s u)

/-- R168, R126, R108, R170: while the safety input is asserted START SHOW, RESUME and CALIBRATE are refused with EVACUATION and
change nothing, for a screen of the port's mask; START SHOW and CALIBRATE are so too while the screen's evacuation mute is set,
whatever the safety input. -/
def Obligations.EvacuationRefuses : Prop :=
  ∀ (s : State) (p : PortId) (i : ScreenId), Covers s p i →
    (s.safety.asserted = true →
      (Executing s p 0x14#8 [numberParam i] →
        exec (.resume p [numberParam i]) s = .next (refused s p 0x14#8 .evacuation)) ∧
      (Executing s p 0x14#8 [0#8] → exec (.resume p [0#8]) s = .next (refused s p 0x14#8 .evacuation))) ∧
    (s.safety.asserted = true ∨ (s.control i).evacuationMute = true →
      (Executing s p 0x12#8 [numberParam i] →
        exec (.startShow p [numberParam i]) s = .next (refused s p 0x12#8 .evacuation)) ∧
      ∀ hi lo : Byte, (hi ++ lo : BitVec 16) ≠ 0#16 → Executing s p 0x1E#8 [numberParam i, hi, lo] →
        exec (.calibrate p [numberParam i, hi, lo]) s = .next (refused s p 0x1E#8 .evacuation))

/-- R176: a command for a screen outside the port's mask is refused with DENIED and changes nothing; the parameters named are
within their ranges. So is SET LINE on a line of such a screen (R147), the acknowledgement of one of its records (R101), and
for a port without house right SEND ORDER (R162) and SET LINE on a HOUSE line. -/
def Obligations.ScreenRightIsNeeded : Prop :=
  (∀ (s : State) (p : PortId) (i : ScreenId), ¬ Covers s p i →
    let n := numberParam i
    (∀ (c : PortId → List Byte → Instr) (op : Byte),
      ((c, op) = (Instr.wake, 0x10#8) ∨ (c, op) = (Instr.sleep, 0x11#8) ∨ (c, op) = (Instr.startShow, 0x12#8) ∨
        (c, op) = (Instr.endShow, 0x13#8) ∨ (c, op) = (Instr.resume, 0x14#8) ∨ (c, op) = (Instr.store, 0x23#8) ∨
        (c, op) = (Instr.wipeScreen, 0x25#8) ∨ (c, op) = (Instr.commission, 0x26#8)) →
      Executing s p op [n] → exec (c p [n]) s = .next (refused s p op .denied)) ∧
    (∀ hi lo : Byte, Executing s p 0x15#8 [n, hi, lo] →
      exec (.setLevel p [n, hi, lo]) s = .next (refused s p 0x15#8 .denied)) ∧
    (∀ hi lo dhi dlo : Byte, Executing s p 0x16#8 [n, hi, lo, dhi, dlo] →
      exec (.fade p [n, hi, lo, dhi, dlo]) s = .next (refused s p 0x16#8 .denied)) ∧
    (∀ v : Byte, v.toNat ≤ 2 → Executing s p 0x17#8 [n, v] →
      exec (.selectSource p [n, v]) s = .next (refused s p 0x17#8 .denied)) ∧
    (∀ v : Byte, v.toNat ≤ 3 → Executing s p 0x18#8 [n, v] →
      exec (.selectPreset p [n, v]) s = .next (refused s p 0x18#8 .denied)) ∧
    (∀ v : Byte, v.toNat ≤ 1 → Executing s p 0x19#8 [n, v] →
      exec (.setLock p [n, v]) s = .next (refused s p 0x19#8 .denied)) ∧
    (∀ (f : FeedId) (hi lo : Byte), Executing s p 0x1A#8 [n, numberParam f, hi, lo] →
      exec (.setTrim p [n, numberParam f, hi, lo]) s = .next (refused s p 0x1A#8 .denied)) ∧
    (∀ f : FeedId, Executing s p 0x1B#8 [n, numberParam f] →
      exec (.clearFeed p [n, numberParam f]) s = .next (refused s p 0x1B#8 .denied)) ∧
    (∀ hi lo : Byte, (hi ++ lo : BitVec 16) ≠ 0#16 → Executing s p 0x1E#8 [n, hi, lo] →
      exec (.calibrate p [n, hi, lo]) s = .next (refused s p 0x1E#8 .denied)) ∧
    (∀ v : Byte, v.toNat ≤ 7 → Executing s p 0x24#8 [n, v] →
      exec (.recallStored p [n, v]) s = .next (refused s p 0x24#8 .denied)) ∧
    (∀ (l : LineId) (a hi lo : Byte) (timing : ScreenId), (s.line l).owner = .screen i → a.toNat ≤ 2 →
      1 ≤ (hi ++ lo : BitVec 16).toNat → (hi ++ lo : BitVec 16).toNat ≤ 1000 →
      Executing s p 0x1D#8 [numberParam l, a, hi, lo, numberParam timing] →
      exec (.setLine p [numberParam l, a, hi, lo, numberParam timing]) s = .next (refused s p 0x1D#8 .denied)) ∧
    ∀ (kind : AlarmKind) (scope : Scope) (k b1 b2 : Byte), alarmKindOfCode k.toNat = some kind →
      scopeOf kind b1.toNat b2.toNat = some scope → scope.screen? = some i → Executing s p 0x05#8 [k, b1, b2] →
      exec (.ackAlarm p [k, b1, b2]) s = .next (refused s p 0x05#8 .denied)) ∧
  ∀ (s : State) (p : PortId), ¬ HasHouse s p →
    (∀ address code hi lo : Byte, 1 ≤ address.toNat → address.toNat ≤ 15 → code.toNat ≤ 127 →
      Executing s p 0x1C#8 [address, code, hi, lo] →
      exec (.sendOrder p [address, code, hi, lo]) s = .next (refused s p 0x1C#8 .denied)) ∧
    ∀ (l : LineId) (a hi lo : Byte) (timing : ScreenId), (s.line l).owner = .house → a.toNat ≤ 2 →
      1 ≤ (hi ++ lo : BitVec 16).toNat → (hi ++ lo : BitVec 16).toNat ≤ 1000 →
      Executing s p 0x1D#8 [numberParam l, a, hi, lo, numberParam timing] →
      exec (.setLine p [numberParam l, a, hi, lo, numberParam timing]) s = .next (refused s p 0x1D#8 .denied)

/-! ### Presets, trims, calibration, feeds, alarms -/

/-- R66, R67, R108, R181: SELECT PRESET and CALIBRATE take a completion entry under the next unused ticket and put their request
into the pending place, where a request of a command that waited is ended as REPLACED, or behind the calibration queue. With 8
entries in the completion table each is refused with BUSY, and CALIBRATE of a screen that is not in IDLE with WRONG_STATE. -/
def Obligations.LongCommandsAreAccepted : Prop :=
  ∀ (s : State) (p : PortId) (i : ScreenId), Covers s p i →
    (∀ n : PresetId, (s.control i).lock = false → 8 ≤ s.completions.entries.length →
      Executing s p 0x18#8 [numberParam i, BitVec.ofNat 8 n.val] →
      exec (.selectPreset p [numberParam i, BitVec.ofNat 8 n.val]) s = .next (refused s p 0x18#8 .busy)) ∧
    (∀ hi lo : Byte, (hi ++ lo : BitVec 16) ≠ 0#16 → s.safety.asserted = false → (s.control i).evacuationMute = false →
      Executing s p 0x1E#8 [numberParam i, hi, lo] →
      ((s.control i).state ≠ .idle →
        exec (.calibrate p [numberParam i, hi, lo]) s = .next (refused s p 0x1E#8 .wrongState)) ∧
      ((s.control i).state = .idle → 8 ≤ s.completions.entries.length →
        exec (.calibrate p [numberParam i, hi, lo]) s = .next (refused s p 0x1E#8 .busy))) ∧
    (CompletionsSound s → s.completions.entries.length < 8 →
      ∃ ticket : Nat, FreshTicket s ticket ∧
        (let counter := if ticket = 255 then 1 else ticket + 1
         let entered (kind : OperationKind) : CompletionTable :=
          { s.completions with entries := s.completions.entries ++ [⟨ticket, p, kind, none⟩], counter := counter }
         (∀ n : PresetId, (s.control i).lock = false → Executing s p 0x18#8 [numberParam i, BitVec.ofNat 8 n.val] →
            ((s.equaliser i).pending = none ∨ (∃ k r, (s.equaliser i).pending = some ⟨k, .cue r⟩) ∨
              ∃ k, (s.equaliser i).pending = some ⟨k, .openingReturn⟩) →
            exec (.selectPreset p [numberParam i, BitVec.ofNat 8 n.val]) s =
              .next (placeResult
                ({ s with completions := entered .selectPreset }.modEqualiser i fun e =>
                  { e with pending := some ⟨n, .command ticket⟩ }) p ⟨0x18#8, .normal, .accepted, [BitVec.ofNat 8 ticket]⟩)) ∧
         (∀ (n k : PresetId) (old : Nat), (s.control i).lock = false →
            Executing s p 0x18#8 [numberParam i, BitVec.ofNat 8 n.val] →
            (s.equaliser i).pending = some ⟨k, .command old⟩ →
            (∃ e ∈ s.completions.entries, e.ticket = old ∧ e.done = none) →
            ∃ u, exec (.selectPreset p [numberParam i, BitVec.ofNat 8 n.val]) s =
                .next (placeResult u p ⟨0x18#8, .normal, .accepted, [BitVec.ofNat 8 ticket]⟩) ∧
              (u.equaliser i).pending = some ⟨n, .command ticket⟩ ∧
              (∃ e ∈ u.completions.entries, e.ticket = old ∧
                e.done = some ⟨.abrupt, .ok, [3#8], s.completions.nextOrder⟩) ∧
              ∃ e ∈ u.completions.entries, e.ticket = ticket ∧ e.owner = p ∧ e.done = none) ∧
         (∀ hi lo : Byte, (hi ++ lo : BitVec 16) ≠ 0#16 → s.safety.asserted = false →
            (s.control i).evacuationMute = false → (s.control i).state = .idle →
            Executing s p 0x1E#8 [numberParam i, hi, lo] →
            exec (.calibrate p [numberParam i, hi, lo]) s =
              .next (placeResult
                { s with
                  completions := entered (.calibrate i (hi ++ lo))
                  calibration := s.calibration ++
                    [⟨ticket, i, hi ++ lo, (List.finRange 16).filter fun f => (hi ++ lo : BitVec 16).getLsbD f.val, none, [],
                      0#16, 0#16, 0#16⟩] } p
                ⟨0x1E#8, .normal, .accepted, [BitVec.ofNat 8 ticket]⟩))))

/-- R67, R75, R28, R130, R191, R193: while the show lock is set, SELECT PRESET, SELECT SOURCE, SET TRIM, RECALL of the screen's
records and COMMISSION outside SHOW are refused with LOCKED and change nothing. -/
def Obligations.LockRefuses : Prop :=
  ∀ (s : State) (p : PortId) (i : ScreenId), Covers s p i → (s.control i).lock = true →
    (∀ n : PresetId, Executing s p 0x18#8 [numberParam i, BitVec.ofNat 8 n.val] →
      exec (.selectPreset p [numberParam i, BitVec.ofNat 8 n.val]) s = .next (refused s p 0x18#8 .locked)) ∧
    (∀ v : Source, Executing s p 0x17#8 [numberParam i, BitVec.ofNat 8 (sourceCode v)] →
      exec (.selectSource p [numberParam i, BitVec.ofNat 8 (sourceCode v)]) s = .next (refused s p 0x17#8 .locked)) ∧
    (∀ (f : FeedId) (hi lo : Byte), Executing s p 0x1A#8 [numberParam i, numberParam f, hi, lo] →
      exec (.setTrim p [numberParam i, numberParam f, hi, lo]) s = .next (refused s p 0x1A#8 .locked)) ∧
    (∀ v : Byte, v.toNat ≤ 7 → Executing s p 0x24#8 [numberParam i, v] →
      exec (.recallStored p [numberParam i, v]) s = .next (refused s p 0x24#8 .locked)) ∧
    (Executing s p 0x26#8 [numberParam i] → (s.control i).state ≠ .inShow →
      exec (.commission p [numberParam i]) s = .next (refused s p 0x26#8 .locked))

/-- R75, R76: SET TRIM writes the clamped trim into the bank entry of the preset being activated, or of the active one, and into
the record its path runs through; no chain, delay or other feed changes, and nothing else. -/
def Obligations.SetTrimWritesBankAndRecord : Prop :=
  ∀ (s : State) (p : PortId) (i : ScreenId) (f : FeedId) (hi lo : Byte), Covers s p i → (s.control i).lock = false →
    Executing s p 0x1A#8 [numberParam i, numberParam f, hi, lo] →
    let e := s.equaliser i
    let n : PresetId := match e.switch with
      | .none => e.active
      | .crossfade r => r.preset
      | .cutOut r _ => r.preset
      | .cutIn r => r.preset
    let wide := max (-120) (min 60 (hi ++ lo : BitVec 16).toInt)
    let trim : Int := match e.commissioned with
      | some trims => if n = 0 then max (Tab.get trims f - 30) (min (Tab.get trims f + 30) wide) else wide
      | none => wide
    ∃ e', exec (.setTrim p [numberParam i, numberParam f, hi, lo]) s =
        .next (answered (s.modEqualiser i fun _ => e') p 0x1A#8
          ([numberParam i, numberParam f] ++ byte n.val ++ signedBytes 1 trim)) ∧
      (∀ (m : PresetId) (g : FeedId), Tab.get (Tab.get e'.bank m) g =
        if m = n ∧ g = f then { Tab.get (Tab.get e.bank m) g with trim := trim } else Tab.get (Tab.get e.bank m) g) ∧
      e'.running = (match e.switch with
        | .none => Tab.modify e.running f fun r => { r with trim := trim }
        | .cutIn _ => Tab.modify e.running f fun r => { r with trim := trim }
        | .crossfade _ => e.running
        | .cutOut _ _ => e.running) ∧
      e'.incoming = (match e.switch, e.incoming with
        | .crossfade _, some v => some (Tab.modify v f fun r => { r with trim := trim })
        | _, v => v) ∧
      e'.active = e.active ∧ e'.switch = e.switch ∧ e'.pending = e.pending ∧ e'.commissioned = e.commissioned ∧
      e'.poolShort = e.poolShort ∧ e'.deferred = e.deferred ∧ e'.zeroDue = e.zeroDue

/-- R83, R88, R89, R90, R91, R92, R93, R94: at a boundary level watch evaluates every feed of the screen on the block that has
ended: it stores the meters, makes the dead and hot tests of a sense-watched feed on the expected sense, holds them while the
tone played, ends them where the feed is watched no longer, and makes the over and clip tests; in DARK every condition but DEAD
ends. Of DEAD, HOT, OVER_LEVEL and CLIP the boundary reports exactly the starts and ends (R98); that they come in ascending feed
order, and within a feed as DEAD, HOT, OVER_LEVEL and CLIP, is the model's choice (log 5). Boundaries at which the screen's own
sweep has a tone are left out. CLEAR FEED makes the feed ACTIVE with a dead count of 0, in every screen state, and ends its DEAD
condition; no other element of the feed's record and no other feed changes. That a BLOCK_BOUNDARY at which a held SLEEP takes
effect at the end of a switch evaluates the ended block as IDLE, and not as DARK, is the model's choice (log 5). -/
def Obligations.ClearFeedRevivesTheFeed : Prop :=
  (∀ (s : State) (i : ScreenId), Running s → boundaryDue (s.screen i) = true →
    (∀ q rest, s.calibration = q :: rest → q.screen = i → q.tone = none) →
    ∃ t, exec (.blockBoundary i) s = .next t ∧
      (∃ xs, t.alarms = reportsTaken s.houseTime xs s.alarms ∧
        xs.filter (fun x => x.1 == .dead || x.1 == .hot || x.1 == .overLevel || x.1 == .clip) =
          (List.finRange 16).flatMap fun g => feedReports i g (s.feed i g) (t.feed i g)) ∧
      ∀ f : FeedId,
      let c := s.screen i
      let set := c.settings
      let r := Tab.get c.feeds f
      let r' := Tab.get (t.screen i).feeds f
      let p := Tab.get c.path.feeds f
      r'.lastPeak = p.peak ∧ r'.lastMean = p.energy / 480 ∧ r'.peakHold = max r.peakHold p.peak ∧
        r'.clipsSinceRead = min 65535 (r.clipsSinceRead + p.clips) ∧ r'.calibration = r.calibration ∧
        r'.latest = r.latest ∧ r'.blockSense = none ∧ r'.toneInBlock = false ∧
        (c.control.state = .dark →
          r'.dead = r.dead ∧ r'.lastSense = r.lastSense ∧ r'.hot = false ∧ r'.overLevel = false ∧ r'.clip = false ∧
            r'.deadCount = 0 ∧ r'.hotCount = 0 ∧ r'.coolCount = 0 ∧ r'.overCount = 0 ∧ r'.underCount = 0 ∧
            r'.clipFreeCount = 0) ∧
        (c.control.state ≠ .dark → r'.lastSense = r.blockSense ∧
          (let loud : Prop := 8 * gain set.overThreshold ≤ p.peak
           let low : Prop := p.peak < 8 * gain (set.overThreshold - 30)
           (r.overLevel = false →
            (¬ loud → r'.overLevel = false ∧ r'.overCount = 0) ∧
            (loud → r.overCount + 1 < set.overBlocks → r'.overLevel = false ∧ r'.overCount = r.overCount + 1) ∧
            (loud → set.overBlocks ≤ r.overCount + 1 → r'.overLevel = true ∧ r'.overCount = 0 ∧ r'.underCount = 0)) ∧
           (r.overLevel = true →
            (¬ low → r'.overLevel = true ∧ r'.underCount = 0) ∧
            (low → r.underCount + 1 < 100 → r'.overLevel = true ∧ r'.underCount = r.underCount + 1) ∧
            (low → 100 ≤ r.underCount + 1 → r'.overLevel = false ∧ r'.overCount = 0 ∧ r'.underCount = 0))) ∧
          (0 < p.clips → r'.clip = true ∧ r'.clipFreeCount = 0) ∧
          (p.clips = 0 → r.clip = true → r.clipFreeCount + 1 < 100 →
            r'.clip = true ∧ r'.clipFreeCount = r.clipFreeCount + 1) ∧
          (p.clips = 0 → r.clip = true → 100 ≤ r.clipFreeCount + 1 → r'.clip = false ∧ r'.clipFreeCount = 0) ∧
          (p.clips = 0 → r.clip = false → r'.clip = false) ∧
          (r.toneInBlock = true →
            r'.dead = r.dead ∧ r'.hot = r.hot ∧ r'.deadCount = r.deadCount ∧ r'.hotCount = r.hotCount ∧
              r'.coolCount = r.coolCount ∧ r'.watched = false) ∧
          (r.toneInBlock = false → set.senseFitted.getLsbD f.val = false ∨ r.calibration = none →
            r'.dead = r.dead ∧ r'.watched = false ∧
            (r.watched = true → r'.hot = false ∧ r'.deadCount = 0 ∧ r'.hotCount = 0 ∧ r'.coolCount = 0) ∧
            (r.watched = false → r'.hot = r.hot ∧ r'.deadCount = r.deadCount ∧ r'.hotCount = r.hotCount ∧
              r'.coolCount = r.coolCount)) ∧
          ∀ tcal scal, r.toneInBlock = false → set.senseFitted.getLsbD f.val = true → r.calibration = some (tcal, scal) →
            let expected := scal * p.peak / (8 * gain tcal)
            r'.watched = true ∧
            (r.dead = true → r'.dead = true ∧ r'.deadCount = r.deadCount) ∧
            (r.blockSense = none → r'.dead = r.dead ∧ r'.hot = r.hot ∧ r'.deadCount = r.deadCount ∧
              r'.hotCount = r.hotCount ∧ r'.coolCount = r.coolCount) ∧
            ∀ v, r.blockSense = some v →
              (let silent : Prop := 8 * gain set.deadFloor ≤ p.peak ∧ v < expected / 4
               r.dead = false →
                (¬ silent → r'.dead = false ∧ r'.deadCount = 0) ∧
                (silent → r.deadCount + 1 < set.deadBlocks → r'.dead = false ∧ r'.deadCount = r.deadCount + 1) ∧
                (silent → set.deadBlocks ≤ r.deadCount + 1 → r'.dead = true ∧ r'.deadCount = 0)) ∧
              (let heated : Prop := 16 ≤ expected ∧ 2 * expected < v
               (r.hot = false →
                (¬ heated → r'.hot = false ∧ r'.hotCount = 0) ∧
                (heated → r.hotCount + 1 < set.hotBlocks → r'.hot = false ∧ r'.hotCount = r.hotCount + 1) ∧
                (heated → set.hotBlocks ≤ r.hotCount + 1 → r'.hot = true ∧ r'.hotCount = 0 ∧ r'.coolCount = 0)) ∧
               (r.hot = true →
                (heated → r'.hot = true ∧ r'.coolCount = 0) ∧
                (¬ heated → r.coolCount + 1 < set.hotBlocks → r'.hot = true ∧ r'.coolCount = r.coolCount + 1) ∧
                (¬ heated → set.hotBlocks ≤ r.coolCount + 1 →
                  r'.hot = false ∧ r'.hotCount = 0 ∧ r'.coolCount = 0))))) ∧
  ∀ (s : State) (p : PortId) (i : ScreenId) (f : FeedId), Covers s p i →
    Executing s p 0x1B#8 [numberParam i, numberParam f] →
    let r := Tab.get (s.screen i).feeds f
    exec (.clearFeed p [numberParam i, numberParam f]) s =
      .next (answered
        { s.modFeeds i (fun v => Tab.set v f { r with dead := false, deadCount := 0 }) with
          alarms := if r.dead then s.alarms.finish s.houseTime .dead (.feed i f) else s.alarms } p 0x1B#8
        (flagByte r.dead ++ [0#8]))

/-- R100, R102: the start of a condition makes a record RAISED, at the end of the ordinary ones with count 1 where none of its
kind and scope is held, and from ENDED with its count raised where one is; with 63 ordinary records held it starts OVERFLOW
instead, and while OVERFLOW stands it stores nothing. Its end makes a RAISED record ENDED and removes a HELD one, and OVERFLOW
ends when fewer than 48 ordinary records are left. R100, R101: ACK ALARM makes every RAISED ordinary record it reaches HELD and
removes every ENDED one: ALL reaches the records that the port covers, the other form the one of the kind and scope named. No
other ordinary record changes; OVERFLOW's end is judged on those left (R102). -/
def Obligations.AcknowledgedRecordsMove : Prop :=
  (∀ (a : AlarmTable) (now : BitVec 32) (kind : AlarmKind) (scope : Scope),
    let mine (r : AlarmRecord) : Prop := r.kind = kind ∧ r.scope = scope
    let again (r r' : AlarmRecord) : Prop :=
      (r.state = .ended → r' = { r with state := .raised, lastChange := now, count := min 255 (r.count + 1) }) ∧
        (r.state ≠ .ended → r' = r)
    let started := a.start now kind scope
    let ended := a.finish now kind scope
    ((∀ r ∈ a.ordinary, ¬ mine r) →
      (a.overflowStands = false → a.ordinary.length < 63 →
        started = { a with ordinary := a.ordinary ++ [⟨kind, scope, .raised, now, now, 1⟩] }) ∧
      (a.overflowStands = false → 63 ≤ a.ordinary.length →
        started.ordinary = a.ordinary ∧ started.overflowStands = true ∧
        (a.overflow = none → started.overflow = some ⟨.overflow, .device, .raised, now, now, 1⟩) ∧
        ∀ r, a.overflow = some r → ∃ r', started.overflow = some r' ∧ again r r') ∧
      (a.overflowStands = true → started = a)) ∧
    ((∃ r ∈ a.ordinary, mine r) →
      started.overflowStands = a.overflowStands ∧ started.overflow = a.overflow ∧
        started.ordinary.length = a.ordinary.length ∧
        ∀ (n : Nat) (r r' : AlarmRecord), a.ordinary[n]? = some r → started.ordinary[n]? = some r' →
          (mine r → again r r') ∧ (¬ mine r → r' = r)) ∧
    (∀ before r behind, a.ordinary = before ++ r :: behind → mine r → (∀ x ∈ before ++ behind, ¬ mine x) →
      (r.state = .raised → ended.ordinary = before ++ { r with state := .ended, lastChange := now } :: behind) ∧
      (r.state = .held → ended.ordinary = before ++ behind)) ∧
    ((∀ r ∈ a.ordinary, ¬ mine r) → ended.ordinary = a.ordinary) ∧
    (a.overflowStands = false ∨ 48 ≤ ended.ordinary.length →
      ended.overflowStands = a.overflowStands ∧ ended.overflow = a.overflow) ∧
    (a.overflowStands = true → ended.ordinary.length < 48 → ended.overflowStands = false ∧
      (a.overflow = none → ended.overflow = none) ∧
      ∀ r, a.overflow = some r →
        (r.state = .raised → ended.overflow = some { r with state := .ended, lastChange := now }) ∧
        (r.state = .held → ended.overflow = none))) ∧
  ∀ (s : State) (p : PortId),
    let covered (scope : Scope) : Prop := ∀ i, scope.screen? = some i → Covers s p i
    let moved (reached : AlarmRecord → Prop) (a : AlarmTable) : Prop :=
      (∀ r, r ∈ a.ordinary ↔
        (r ∈ s.alarms.ordinary ∧ (¬ reached r ∨ r.state = .held)) ∨
          ∃ o ∈ s.alarms.ordinary, reached o ∧ o.state = .raised ∧ r = { o with state := .held, lastChange := s.houseTime }) ∧
        (a.overflowStands = true ↔ s.alarms.overflowStands = true ∧ 48 ≤ a.ordinary.length)
    (Executing s p 0x05#8 [0#8] →
      ∃ a payload, exec (.ackAlarm p [0#8]) s = .next (answered { s with alarms := a } p 0x05#8 payload) ∧
        moved (fun r => covered r.scope) a) ∧
    ∀ (kind : AlarmKind) (scope : Scope) (k b1 b2 : Byte), alarmKindOfCode k.toNat = some kind →
      scopeOf kind b1.toNat b2.toNat = some scope → covered scope → Executing s p 0x05#8 [k, b1, b2] →
      ∃ a payload, exec (.ackAlarm p [k, b1, b2]) s = .next (answered { s with alarms := a } p 0x05#8 payload) ∧
        moved (fun r => r.kind = kind ∧ r.scope = scope) a

/-! ### Cue lines -/

/-- R146: a line is active while its set flag is set, its pulse runs, its screen's lamp demand stands or the safety input is
asserted, by its role; its drive is energised while it is active under NORMAL, and while it is not under INVERTED. -/
def Obligations.RelayFollowsTheLine : Prop :=
  ∀ (s : State) (l : LineId),
    let r := s.line l
    let lamp (i : ScreenId) : Prop :=
      ∃ a ∈ s.alarms.ordinary ++ s.alarms.overflow.toList, a.scope.screen? = some i ∧ a.state = .raised
    let active : Prop := r.flag = true ∨ 0 < r.pulse ∨ (∃ i, r.role = .alarmLamp i ∧ lamp i) ∨
      (r.role = .evac ∧ s.safety.asserted = true)
    (relayEnergised s l = true ↔ (active ∧ r.inverted = false) ∨ (¬ active ∧ r.inverted = true))

/-- R145, R147: SET LINE does SET, CLEAR or PULSE on a line of a screen of the port, from its owner's screen, or on a HOUSE line
under house right, from the timing screen; CLEAR leaves a running pulse.  No other line and nothing else changes. -/
def Obligations.SetLineActsOnTheLine : Prop :=
  ∀ (s : State) (p : PortId) (l : LineId) (a hi lo : Byte) (timing : ScreenId),
    let d := (hi ++ lo : BitVec 16).toNat
    let r := s.line l
    let source : ScreenId := match r.owner with
      | .house => timing
      | .screen i => i
    let r' : CueLine := match a.toNat with
      | 0 => { r with flag := true }
      | 1 => { r with flag := false }
      | _ => { r with pulse := d, pulseScreen := some source }
    a.toNat ≤ 2 → 1 ≤ d → d ≤ 1000 →
    (match r.owner with
      | .house => HasHouse s p
      | .screen i => Covers s p i) →
    Executing s p 0x1D#8 [numberParam l, a, hi, lo, numberParam timing] →
    exec (.setLine p [numberParam l, a, hi, lo, numberParam timing]) s =
      .next (answered { s with lines := Tab.set s.lines l r' } p 0x1D#8 r'.bytes)

/-! ### The cue loop -/

/-- R162, R154: SEND ORDER queues an order of the port at the tail and answers the number of orders queued; with 32 orders
queued it is refused with BUSY and LOOP_CONGESTED stands. The transmitter then takes a frame that is due. That the number
answered counts the order itself before the transmitter takes one is deduced (log 12); that an order which the transmitter has
taken counts among the 32 while its taking is still open to judgement is the model's choice (log 25). -/
def Obligations.SendOrderQueues : Prop :=
  ∀ (s : State) (p : PortId) (address code hi lo : Byte), HasHouse s p → code.toNat ≤ 127 →
    1 ≤ address.toNat → address.toNat ≤ 15 →
    Executing s p 0x1C#8 [address, code, hi, lo] →
    ∃ f : OrderForm,
      (address.toNat ≤ 8 → ∃ k : StationId, f = .order k ∧ k.val + 1 = address.toNat) ∧
      (9 ≤ address.toNat → f = .broadcast address.toNat) ∧
      ((∀ k, f = .order k → (s.station k).state ≠ .absent ∧ (s.station k).state ≠ .down) →
        (ordersHeld s < 32 →
          exec (.sendOrder p [address, code, hi, lo]) s =
            .next (answered
              (arbitrate { s with loop := { s.loop with
                queue := s.loop.queue ++ [⟨f, code.toNat, (hi ++ lo : BitVec 16).toNat, .port p⟩] } }) p 0x1C#8
              (byte (s.loop.queue.length + 1)))) ∧
        (32 ≤ ordersHeld s →
          ∃ u, exec (.sendOrder p [address, code, hi, lo]) s = .next (refused u p 0x1C#8 .busy) ∧
            u.loop = { s.loop with congested := true } ∧ u.screens = s.screens ∧ u.lines = s.lines ∧ u.ports = s.ports)) ∧
      (∀ k, f = .order k → (s.station k).state = .absent ∨ (s.station k).state = .down →
        exec (.sendOrder p [address, code, hi, lo]) s = .next (refused s p 0x1C#8 .wrongState))

/-- R151, R154, R156: with the loop FREE the transmitter takes the evacuation order first, then the due PROBE or RESTART of the
lowest station, then the due resend of the lowest UP station, then the oldest eligible order; it takes nothing while the loop is
not FREE or nothing is due. What is taken is being sent, and the screens, lines, ports and the store do not change. A frame that
becomes due at the instant at which the loop became FREE joins the judgement, whether before or after the transmitter took one:
the evacuation order, a PROBE or RESTART, an order of the queue; a station table load acts as though it came first, and the
queue has room for an order as it had before the taking. LOOP_CONGESTED ends when an order taken leaves fewer than 24 (R154).
That this instant is a conversion slot, that LOOP_CONGESTED stays ended where an order goes back, and that the order taken
counts among the 32 until the instant is over, is the model's choice (log 25). -/
def Obligations.TransmitterArbitrates : Prop :=
  ∀ s : State,
    (s.loop.state ≠ .free → Judged s → arbitrate s = s) ∧
    (s.loop.state = .free → s.loop.freedAt = some s.scanner.slot → LoopSound s → s.loop.congested = false →
      (s.loop.source = none → reopen (arbitrate s) = s) ∧
      (∀ o,
        let filled (u : State) : State := { u with loop := { u.loop with evacuationSlot := some o } }
        arbitrate (filled (arbitrate s)) = arbitrate (filled s)) ∧
      (∀ k d, (s.station k).due = none →
        let due (u : State) : State := u.modStation k fun r => { r with due := some d }
        arbitrate (due (arbitrate s)) = arbitrate (due s)) ∧
      (∀ o,
        let queued (u : State) : State := { u with loop := { u.loop with queue := u.loop.queue ++ [o] } }
        s.loop.queue.length < 32 → arbitrate (queued (arbitrate s)) = arbitrate (queued s)) ∧
      (s.loop.source = none → (queueHasRoom (arbitrate s) = true ↔ s.loop.queue.length < 32)) ∧
      (s.loop.source = none → StationsInWindow s →
        ∀ table, commitStationTable (arbitrate s) table = commitStationTable s table)) ∧
    (s.loop.state = .free →
      let t := arbitrate s
      let due (k : StationId) : Prop := (s.station k).due.isSome = true
      let again (k : StationId) (j : Nat) (o : Outstanding) : Prop :=
        (s.station k).state = .up ∧ (s.station k).resend = some j ∧ (s.station k).outstanding[j]? = some o
      let ready (o : Order) : Prop := match o.form with
        | .broadcast _ => True
        | .order k => (s.station k).state = .up ∧ (s.station k).outstanding.length < 3 ∧ (s.station k).resend = none
      let noAgain : Prop := ∀ k j o, ¬ again k j o
      t.screens = s.screens ∧ t.lines = s.lines ∧ t.ports = s.ports ∧ t.store = s.store ∧ t.completions = s.completions ∧
      (∀ o, s.loop.evacuationSlot = some o →
        t.loop = { s.loop with
          evacuationSlot := none
          state := .sending (.broadcast o.address o.code o.argument none)
          source := some .evacuation } ∧ t.alarms = s.alarms) ∧
      (s.loop.evacuationSlot = none →
        (∀ k d, (s.station k).due = some d → (∀ j, j < k → ¬ due j) →
          t.loop.state = .sending (match d with
            | .probe => .probe k
            | .restart => .restart k) ∧ t.station k = { s.station k with due := none } ∧ t.loop.queue = s.loop.queue ∧
            t.loop.congested = s.loop.congested ∧ t.alarms = s.alarms) ∧
        ((∀ k, ¬ due k) →
          (∀ k j o, again k j o → (∀ m, m < k → ∀ j o, ¬ again m j o) →
            t.loop.queue = s.loop.queue ∧ t.loop.congested = s.loop.congested ∧ t.alarms = s.alarms ∧
            t.loop.state = .sending (.order k o.number
              (decide ((s.station k).outstanding.length ≤ j + 1)) o.code o.argument) ∧
            t.station k = { s.station k with
              resend := if (s.station k).outstanding.length ≤ j + 1 then none else some (j + 1) }) ∧
          (noAgain →
            (∀ before o after, s.loop.queue = before ++ o :: after → ready o → (∀ q ∈ before, ¬ ready q) →
              t.loop.queue = before ++ after ∧ CongestionSettled s t ∧
              t.alarms = changeReported s.houseTime .loopCongested .device s.loop.congested t.loop.congested s.alarms ∧
              (∀ a, o.form = .broadcast a →
                t.loop.state = .sending (.broadcast a o.code o.argument (some o.origin)) ∧
                  t.loop.stations = s.loop.stations) ∧
              ∀ k, o.form = .order k →
                t.loop.state = .sending (.order k (s.station k).next
                  (decide ((s.station k).outstanding.length = 2 ∨ ∀ q ∈ before ++ after, q.form ≠ .order k))
                  o.code o.argument) ∧
                t.station k = { s.station k with
                  next := ((s.station k).next + 1) % 8
                  outstanding := (s.station k).outstanding ++
                    [⟨(s.station k).next, o.code, o.argument, o.origin⟩] }) ∧
            ((∀ o ∈ s.loop.queue, ¬ ready o) → t = s)))))

/-- R151, R158: at the end of a transmission the loop awaits the station of a PROBE, a RESTART or an ORDER that asks for a
reply, its reply timer running, unless that station is ABSENT; after any other frame it is FREE, a cue's BROADCAST is reported
DELIVERED, and the transmitter takes what is due.  The timer's unit is the model's choice (log 6), and so is the slot that is
kept as the instant at which the loop became FREE (log 25). -/
def Obligations.TransmissionEnds : Prop :=
  ∀ (s : State), Running s →
    let freed : State := { s with loop := { s.loop with state := .free, freedAt := some s.scanner.slot } }
    (∀ (k : StationId) (f : LoopFrame), s.loop.state = .sending f →
      (f = .probe k ∨ f = .restart k ∨ ∃ n c a, f = .order k n true c a) →
      ((s.station k).state ≠ .absent →
        exec .frameTransmissionEnd s = .next { s with loop := { s.loop with
          state := .awaiting k (s.scanner.slot + 8 * s.loop.table.replyTimeout) } }) ∧
      ((s.station k).state = .absent →
        exec .frameTransmissionEnd s = .next (arbitrate freed))) ∧
    (∀ (k : StationId) (n c a : Nat), s.loop.state = .sending (.order k n false c a) →
      exec .frameTransmissionEnd s = .next (arbitrate freed)) ∧
    (∀ (address c a : Nat) (origin : Option OrderOrigin), s.loop.state = .sending (.broadcast address c a origin) →
      (∀ ref, origin ≠ some (.cue ref)) →
      exec .frameTransmissionEnd s = .next (arbitrate freed)) ∧
    ∀ (address c a : Nat) (ref : CueRef), s.loop.state = .sending (.broadcast address c a (some (.cue ref))) →
      exec .frameTransmissionEnd s =
        .next (arbitrate (reportCue freed ref .delivered))

/-- R150, R151, R196: a frame that is no TALLY of a station 1 to 8 with a matching CRC has no effect on any state, and neither
has one that arrives while the part is SENDING, but for the frame that is taken at the instant of a reply timer's expiry, which
is still to be judged. That instant is a conversion slot by the model's choice (logs 6, 25). -/
def Obligations.BadFramesAreIgnored : Prop :=
  ∀ (s : State) (bytes : List Byte), Running s →
    (((∃ f, s.loop.state = .sending f) ∧ (s.loop.expiredAt ≠ some s.scanner.slot ∨ ¬ Gathers (reopen s))) ∨
      ∀ (head status zone hi lo : Byte), bytes = [0xA5#8, head, status, zone, hi, lo] →
        head.extractLsb' 0 4 = 8#4 → 1 ≤ (head.extractLsb' 4 4).toNat → (head.extractLsb' 4 4).toNat ≤ 8 →
        (hi ++ lo : BitVec 16) ≠ crc [head, status, zone]) →
    exec (.frameReceived bytes) s = .next s

/-- R151, R159, R143, R163: a good TALLY in range in UP or BUSY acknowledges the first orders of the outstanding list, their
cues told DELIVERED, leaves the resend position at the first that remains, takes the ready flag as UP or BUSY with its timer,
and ends a wait for the station; one out of range counts as an unanswered request, which makes a PROBE due or the station DOWN,
and has its fault flag taken. The other stations' records stay. STATION_FAULT and STATION_DOWN, and the LOOP_CONGESTED that ends
with the orders of a station that goes DOWN, are reported (R98, R154). A TALLY of the instant at which the reply timer expired
is taken by the station as the expiry left it, before the frames due at that instant are judged (R156). What the transmitter
takes next is Obligations.TransmitterArbitrates. The timer's unit and the length of an instant are the model's choice (logs 6,
25), and so are the frame that a DOWN station keeps due and that the fault flag is taken after the judgement, so that
STATION_DOWN is reported before STATION_FAULT (log 14). -/
def Obligations.TallyAcknowledges : Prop :=
  (∀ (s : State) (bytes : List Byte) (y : Tally), Running s → tallyOf bytes = some y → ¬ Gathers s →
    s.loop.expiredAt = some s.scanner.slot → Gathers (reopen s) →
    exec (.frameReceived bytes) s = exec (.frameReceived bytes) (reopen s)) ∧
  ∀ (s : State) (bytes : List Byte) (y : Tally), Running s → Gathers s →
    tallyOf bytes = some y → (s.station y.station).state = .up ∨ (s.station y.station).state = .busy →
    let r := s.station y.station
    let others (u : State) : Prop :=
      (∀ k, k ≠ y.station → u.station k = s.station k) ∧
        u.loop.state = (if s.loop.state.isAwaiting y.station then .free else s.loop.state) ∧
        u.lines = s.lines ∧ u.ports = s.ports ∧ u.pool = s.pool ∧ u.store = s.store ∧ u.completions = s.completions
    let faultTold (u : State) (a : AlarmTable) : Prop :=
      u.alarms = changeReported s.houseTime .stationFault (.station y.station) r.fault y.fault a
    (∀ j, r.oldest < 8 → y.next = (r.oldest + j) % 8 → j ≤ r.outstanding.length → r.outstanding.length ≤ 3 →
      ∃ u, exec (.frameReceived bytes) s = .next (arbitrate u) ∧
        u.station y.station = { r with
          state := if y.ready then .up else .busy
          oldest := y.next
          outstanding := r.outstanding.drop j
          resend := if j < r.outstanding.length then some 0 else none
          retry := 0
          fault := y.fault
          timer := if y.ready then none else some (s.scanner.slot + 800)
          due := if r.due = some .probe then none else r.due } ∧
        u.loop.queue = s.loop.queue ∧ others u ∧ faultTold u s.alarms ∧
        Reported s u (fun ref => ∃ o ∈ r.outstanding.take j, o.origin = .cue ref) .delivered) ∧
    (r.oldest < 8 → (∀ j, j ≤ r.outstanding.length → y.next ≠ (r.oldest + j) % 8) →
      let count := min 255 (r.retry + 1)
      ∃ u, exec (.frameReceived bytes) s = .next (arbitrate u) ∧ others u ∧
        (s.loop.table.retryLimit = 7 ∨ count ≤ s.loop.table.retryLimit →
          u.station y.station = { r with retry := count, due := some .probe, timer := none, fault := y.fault } ∧
            u.loop.queue = s.loop.queue ∧ u.screens = s.screens ∧ faultTold u s.alarms) ∧
        (s.loop.table.retryLimit ≠ 7 → s.loop.table.retryLimit < count →
          u.station y.station = { r with
            state := .down
            retry := 0
            next := 0
            oldest := 0
            outstanding := []
            resend := none
            timer := some (s.scanner.slot + 8000)
            fault := y.fault
            downStands := true } ∧
          u.loop.queue = s.loop.queue.filter (fun o => o.form != .order y.station) ∧ CongestionSettled s u ∧ faultTold u (downReported s u y.station) ∧
          Reported s u (OrderedBy s y.station) .failedStation))

/-- R150, R161: a TALLY with next-expected 0 in JOINING brings the station to UP, or to BUSY where it is not ready, with the
TALLY's zone; one with another number counts as an unanswered request, which makes the RESTART due again or the station DOWN.
Any TALLY of a DOWN station lets it join again with a RESTART due, and one of an ABSENT station has no effect. STATION_FAULT and
STATION_DOWN, and the LOOP_CONGESTED that ends with its orders, are reported (R98, R154, R163). The timer's unit is the model's
choice (log 6), and so are the frame that a DOWN station keeps due and that the fault flag is taken after the judgement, so that
STATION_DOWN is reported before STATION_FAULT (log 14). -/
def Obligations.TallyJoinsTheStation : Prop :=
  ∀ (s : State) (bytes : List Byte) (y : Tally), Running s → Gathers s →
    tallyOf bytes = some y →
    let r := s.station y.station
    let others (u : State) : Prop :=
      (∀ k, k ≠ y.station → u.station k = s.station k) ∧
        u.loop.state = (if s.loop.state.isAwaiting y.station then .free else s.loop.state) ∧
        u.lines = s.lines ∧ u.ports = s.ports
    let faultTold (u : State) (a : AlarmTable) : Prop :=
      u.alarms = changeReported s.houseTime .stationFault (.station y.station) r.fault y.fault a
    (r.state = .joining → y.next = 0 →
      ∃ u, exec (.frameReceived bytes) s = .next (arbitrate u) ∧
        u.station y.station = { r with
          state := if y.ready then .up else .busy
          retry := 0
          due := none
          zone := y.zone
          downStands := false
          fault := y.fault
          timer := if y.ready then none else some (s.scanner.slot + 800) } ∧
        u.loop.queue = s.loop.queue ∧ u.screens = s.screens ∧ others u ∧
        faultTold u (changeReported s.houseTime .stationDown (.station y.station) r.downStands false s.alarms)) ∧
    (r.state = .joining → y.next ≠ 0 →
      let count := min 255 (r.retry + 1)
      ∃ u, exec (.frameReceived bytes) s = .next (arbitrate u) ∧ others u ∧
        (s.loop.table.retryLimit = 7 ∨ count ≤ s.loop.table.retryLimit →
          u.station y.station = { r with retry := count, due := some .restart, timer := none, fault := y.fault } ∧
            u.loop.queue = s.loop.queue ∧ u.screens = s.screens ∧ faultTold u s.alarms) ∧
        (s.loop.table.retryLimit ≠ 7 → s.loop.table.retryLimit < count →
          u.station y.station = { r with
            state := .down
            retry := 0
            next := 0
            oldest := 0
            outstanding := []
            resend := none
            timer := some (s.scanner.slot + 8000)
            fault := y.fault
            downStands := true } ∧
          u.loop.queue = s.loop.queue.filter (fun o => o.form != .order y.station) ∧ CongestionSettled s u ∧ faultTold u (downReported s u y.station) ∧
          Reported s u (OrderedBy s y.station) .failedStation)) ∧
    (r.state = .down →
      ∃ u, exec (.frameReceived bytes) s = .next (arbitrate u) ∧
        u.station y.station = { r with
          state := .joining
          next := 0
          oldest := 0
          retry := 0
          resend := none
          timer := none
          due := some .restart
          fault := y.fault } ∧
        u.loop.queue = s.loop.queue ∧ u.screens = s.screens ∧ others u ∧ faultTold u s.alarms) ∧
    (r.state = .absent → s.loop.state.isAwaiting y.station = false →
      exec (.frameReceived bytes) s = .next (arbitrate s))

/-- R160: an unanswered request raises the retry count and makes a PROBE due in UP and BUSY, a RESTART in JOINING, until the
limit is passed, when the station goes DOWN with nothing outstanding, no order of the queue and a timer of 1,000 ms; 7 is no
limit. The cues whose orders go with it are told FAILED_STATION, and its STATION_DOWN and a LOOP_CONGESTED that ends with them
are reported (R98, R154). A DOWN station's timer starts again; on its expiry, as on a BUSY station's, a PROBE becomes due. The
timer's unit, and that an expiry acts whenever its timer runs, are the model's choice (log 6), and so is that a station that
goes DOWN keeps a frame that is due for it (log 14). -/
def Obligations.UnansweredRequestsAreRetried : Prop :=
  (∀ (s : State) (k : StationId) (timer : Nat), Running s → s.loop.state = .awaiting k timer →
    let r := s.station k
    let count := min 255 (r.retry + 1)
    ∃ u, exec .replyTimerExpiry s = .next (arbitrate u) ∧ u.loop.state = .free ∧
      (∀ m, m ≠ k → u.station m = s.station m) ∧ u.lines = s.lines ∧ u.ports = s.ports ∧ u.pool = s.pool ∧
      u.loop.expiredAt = some s.scanner.slot ∧ u.loop.freedAt = some s.scanner.slot ∧
      (s.loop.table.retryLimit = 7 ∨ count ≤ s.loop.table.retryLimit →
        r.state = .up ∨ r.state = .busy ∨ r.state = .joining →
        u.station k = { r with
          retry := count
          timer := none
          due := some (if r.state = .joining then .restart else .probe) } ∧ u.loop.queue = s.loop.queue ∧
        u.screens = s.screens ∧ u.alarms = s.alarms) ∧
      (s.loop.table.retryLimit ≠ 7 → s.loop.table.retryLimit < count →
        r.state = .up ∨ r.state = .busy ∨ r.state = .joining →
        u.station k = { r with
          state := .down
          retry := 0
          next := 0
          oldest := 0
          outstanding := []
          resend := none
          timer := some (s.scanner.slot + 8000)
          downStands := true } ∧
        u.loop.queue = s.loop.queue.filter (fun o => o.form != .order k) ∧ CongestionSettled s u ∧ u.alarms = downReported s u k ∧
        Reported s u (OrderedBy s k) .failedStation) ∧
      (r.state = .down →
        u.station k = { r with timer := some (s.scanner.slot + 8000) } ∧ u.loop.queue = s.loop.queue ∧
          u.alarms = s.alarms)) ∧
  ∀ (s : State) (k : StationId) (expiry : Nat), Running s → (s.station k).timer = some expiry →
    (s.station k).state = .busy ∨ (s.station k).state = .down →
    exec (.stationTimerExpiry k) s =
      .next (arbitrate { s with loop := { s.loop with
        stations := Tab.set s.loop.stations k { s.station k with timer := none, due := some .probe } } })

/-! ### Start-up -/

/-- R188, R194: power-on and the RESET line end all activity and start the stabilisation count, with the store's places kept but
for one in the middle of a write or erasure. At its end the straps are sampled after a power-on, the record map names for
each record the highest place whose header names it, a mapped record that is good is taken into working memory, a bad one
gives its defaults and a fault mark, the screens take their power-on state and preset, and every enabled station joins. A
store whose places are all EMPTY gives the reset columns' values. That this is the whole of State.reset rests on the model's
choices: the state of an unwritten store (log 1), the reset values that the spec does not give (log 2), the straps during a
second reset and the model's own counters (logs 8, 19); the layout of a record is its choice too (log 9). -/
def Obligations.StartUpRuns : Prop :=
  ∀ s : State,
    (∃ t, exec .powerOn s = .next t ∧ t.power = .stabilising true ∧ t.straps = s.straps ∧ t.store.op = .none ∧
      ∀ q, placeInHand s ≠ some q → Tab.get t.store.places q = Tab.get s.store.places q) ∧
    (∃ t, exec .resetLine s = .next t ∧
      t.power = .stabilising (decide (s.power = .stabilising true)) ∧ t.straps = s.straps ∧ t.store.op = .none ∧
      ∀ q, placeInHand s ≠ some q → Tab.get t.store.places q = Tab.get s.store.places q) ∧
    ∀ byPowerOn storeBypass quietStart : Bool, s.power = .stabilising byPowerOn →
      ∃ t, exec (.stabilisationEnd storeBypass quietStart) s = .next t ∧ Running t ∧ t.houseTime = 0#32 ∧
        t.straps = (if byPowerOn then ⟨storeBypass, quietStart⟩ else s.straps) ∧
        t.store.places = s.store.places ∧ t.store.op = .none ∧
        (∀ r q, Tab.get t.store.map r = some q ↔ t.straps.storeBypass = false ∧
          (Tab.get s.store.places q).names = some r ∧ ∀ q', q < q' → (Tab.get s.store.places q').names ≠ some r) ∧
        (∀ p, (t.port p).phase = .ready ∧ (t.port p).result = none ∧ (t.port p).staging = .closed) ∧
        t.completions.entries = [] ∧ t.calibration = [] ∧ t.loop.queue = [] ∧
        (∀ i, (t.screen i).lane = .reset ∧ (t.control i).lock = false ∧ (t.control i).clock = .none ∧
          (t.control i).fader = 0 ∧ (t.screen i).governor = .reset ∧ (t.equaliser i).switch = .none ∧
          (t.equaliser i).active = (t.screen i).settings.powerOnPreset ∧
          ((t.control i).state = .dark ↔
            t.straps.quietStart = true ∨ (t.screen i).settings.powerOnState = .dark) ∧
          (t.control i).state ≠ .inShow ∧
          (t.screen i).path.screenGate = (if (t.control i).state = .dark then .closed else .opened)) ∧
        (∀ k, (t.station k).state = if t.loop.table.enabled.getLsbD k.val then .joining else .absent) ∧
        (let faulty (r : RecordId) : Prop := Tab.get t.store.faults r = true
         let sound (r : RecordId) : Prop := Tab.get t.store.faults r = false
         let good (r : RecordId) (bytes : List Byte) : Prop :=
          ∃ q, Tab.get t.store.map r = some q ∧ (Tab.get s.store.places q).read = some bytes
         (∀ r, Tab.get t.store.map r = none → sound r) ∧
          (∀ r q, Tab.get t.store.map r = some q → (Tab.get s.store.places q).read = none → faulty r) ∧
          (∀ r, recordName r = .device →
            ((∀ bytes, ¬ good r bytes) → t.lines = State.reset.lines ∧ t.loop.table = StationTable.default ∧
              ∀ p, (t.port p).access = (State.reset.port p).access) ∧
            ∀ bytes, good r bytes →
              (∀ table, bytes.length = 66 → (∃ k : PortId, bytes.getD (2 * k.val + 1) 0#8 ≠ 0#8) →
                LineBytesFit ((bytes.drop 10).take 48) → stationTableOf (bytes.drop 58) = some table →
                AccessTaken bytes State.reset.port t.port ∧ LinesTaken ((bytes.drop 10).take 48) State.reset.lines t.lines ∧
                  t.loop.table = table ∧ sound r) ∧
              (bytes.length ≠ 66 ∨ (∀ k : PortId, bytes.getD (2 * k.val + 1) 0#8 = 0#8) ∨
                ¬ LineBytesFit ((bytes.drop 10).take 48) ∨ stationTableOf (bytes.drop 58) = none →
                t.lines = State.reset.lines ∧ t.loop.table = StationTable.default ∧
                  (∀ p, (t.port p).access = (State.reset.port p).access) ∧ faulty r)) ∧
          (∀ r i, recordName r = .settings i →
            ((∀ bytes, ¬ good r bytes) → (t.screen i).settings = Settings.default ∧
              ∀ f, (Tab.get (t.screen i).feeds f).calibration = none) ∧
            ∀ bytes, good r bytes →
              (∀ v, bytes.length = 122 → settingsOf (bytes.take 42) = some v →
                (∀ f : FeedId, (bytes.getD (42 + 5 * f.val) 0#8).toNat ≤ 1) →
                (t.screen i).settings = v ∧ CalibrationTaken bytes (t.screen i).feeds ∧ sound r) ∧
              (bytes.length ≠ 122 ∨ settingsOf (bytes.take 42) = none ∨
                (∃ f : FeedId, 1 < (bytes.getD (42 + 5 * f.val) 0#8).toNat) →
                (t.screen i).settings = Settings.default ∧
                  (∀ f, (Tab.get (t.screen i).feeds f).calibration = none) ∧ faulty r)) ∧
          (∀ r i, recordName r = .render i →
            ((∀ bytes, ¬ good r bytes) → (t.screen i).renderer.table = defaultRenderTable) ∧
            ∀ bytes, good r bytes →
              (∀ raw new, takeRowSets bytes.length (bytes.drop 1) = some raw → RowSetsFit raw →
                TableTaken raw defaultRenderTable new →
                (termTotal new ≤ 192 → (t.screen i).renderer.table = new ∧ sound r) ∧
                (192 < termTotal new → (t.screen i).renderer.table = defaultRenderTable ∧ faulty r)) ∧
              ((∀ raw, takeRowSets bytes.length (bytes.drop 1) = some raw → ¬ RowSetsFit raw) →
                (t.screen i).renderer.table = defaultRenderTable ∧ faulty r)) ∧
          (∀ r i, recordName r = .cues i →
            ((∀ bytes, ¬ good r bytes) → (t.control i).cues = []) ∧
            ∀ bytes, good r bytes →
              (∀ members cues, wholeMembers 12 (bytes.drop 1) = some members →
                readAll (cueOf fun _ => true) members = some cues →
                let before := (((List.finRange 4).filter fun j => j < i).map fun j => (t.control j).cues.length).sum
                (before + cues.length ≤ 256 → CuesTaken cues (t.control i).cues ∧ sound r) ∧
                (256 < before + cues.length → (t.control i).cues = [] ∧ faulty r)) ∧
              ((∀ members, wholeMembers 12 (bytes.drop 1) = some members →
                  readAll (cueOf fun _ => true) members = none) →
                (t.control i).cues = [] ∧ faulty r)) ∧
          ∀ r i n, recordName r = .preset i n →
            ((∀ bytes, ¬ good r bytes) → Tab.get (t.equaliser i).bank n = Preset.factory ∧
              (n = 0 → (t.equaliser i).commissioned = none)) ∧
            ∀ bytes, good r bytes →
              (∀ d, presetRecordOf n bytes = some d → Tab.get (t.equaliser i).bank n = d.content ∧
                (n = 0 → (t.equaliser i).commissioned = d.commissioned) ∧ sound r) ∧
              (presetRecordOf n bytes = none → Tab.get (t.equaliser i).bank n = Preset.factory ∧
                (n = 0 → (t.equaliser i).commissioned = none) ∧ faulty r)) ∧
        ((∀ q, Tab.get s.store.places q = Place.empty) →
          t = { State.reset with
            pending := s.pending
            straps := if byPowerOn then ⟨storeBypass, quietStart⟩ else s.straps
            takings := s.takings
            freeCount := s.freeCount
            screens := Tab.all (if t.straps.quietStart then
              { Screen.reset with
                control := { ShowControl.reset with state := .dark }
                path := { SignalPath.reset with screenGate := .closed } }
              else Screen.reset) })

/-! ### Loads -/

/-- R177: OPEN LOAD opens an empty staging in place of what was there; a PARCEL of 1 to 32 bytes is appended, or overflows a
staging that would pass 4,096 bytes; without a staging it is refused. Nothing else changes.  The payload of PARCEL is deduced
(log 12). -/
def Obligations.LoadsAreStaged : Prop :=
  ∀ (s : State) (p : PortId),
    (∀ (code : Byte) (t : LoadTarget), targetOfCode code.toNat = some t → Executing s p 0x20#8 [code] →
      exec (.openLoad p [code]) s =
        .next (answered (s.modPort p fun q => { q with staging := .opened t [] 0 }) p 0x20#8 [])) ∧
    ∀ data : List Byte, 1 ≤ data.length → data.length ≤ 32 → Executing s p 0x21#8 data →
      (∀ t bytes sent, (s.port p).staging = .opened t bytes sent →
        let total := min 65535 (sent + data.length)
        (bytes.length + data.length ≤ 4096 →
          exec (.parcel p data) s =
            .next (answered (s.modPort p fun q => { q with staging := .opened t (bytes ++ data) total }) p 0x21#8
              (1#8 :: bytesOf 2 total))) ∧
        (4096 < bytes.length + data.length →
          exec (.parcel p data) s =
            .next (answered (s.modPort p fun q => { q with staging := .overflowed t total }) p 0x21#8
              (2#8 :: bytesOf 2 total)))) ∧
      (∀ t sent, (s.port p).staging = .overflowed t sent →
        let total := min 65535 (sent + data.length)
        exec (.parcel p data) s =
          .next (answered (s.modPort p fun q => { q with staging := .overflowed t total }) p 0x21#8
            (2#8 :: bytesOf 2 total))) ∧
      ((s.port p).staging = .closed → exec (.parcel p data) s = .next (refused s p 0x21#8 .wrongState))

/-- R37, R38, R64, R65, R132, R144, R152, R178, R179, R180: CLOSE LOAD without a staging is refused; with one it leaves the
staging CLOSED: an overflowed one ends ABRUPT, OVERFLOW, another number of bytes than the one sent is BAD_LENGTH, a device table
without house right DENIED, a screen's content DENIED outside the port's mask and LOCKED under the show lock; then the target's
own checks refuse in their order. Content that passes is committed: a cue list sorted by time with the load order kept, the row
sets carried of a render table, a preset, the settings, the line table with flags and pulses kept, the access table, and the
station table, whose newly enabled stations join and whose disabled ones lose their orders. What a disabled station keeps of its
record is the model's choice (log 14), and so are the corners of staged content (log 18) and the bytes of the new access table
in the result, with no count byte (log 12). -/
def Obligations.CloseLoadJudgesAndCommits : Prop :=
  ∀ (s : State) (p : PortId) (hi lo : Byte), Executing s p 0x22#8 [hi, lo] →
    let closed (u : State) : State := u.modPort p fun q => { q with staging := .closed }
    let ends (u : State) (payload : List Byte) : Prop :=
      exec (.closeLoad p [hi, lo]) s = .next (answered (closed u) p 0x22#8 payload)
    let refuses (r : Reason) : Prop := exec (.closeLoad p [hi, lo]) s = .next (refused (closed s) p 0x22#8 r)
    ((s.port p).staging = .closed → exec (.closeLoad p [hi, lo]) s = .next (refused s p 0x22#8 .wrongState)) ∧
    (∀ t sent, (s.port p).staging = .overflowed t sent →
      exec (.closeLoad p [hi, lo]) s = .next (placeResult (closed s) p ⟨0x22#8, .abrupt, .overflow, []⟩)) ∧
    ∀ t bytes sent, (s.port p).staging = .opened t bytes sent →
      (bytes.length ≠ (hi ++ lo : BitVec 16).toNat → refuses .badLength) ∧
      (bytes.length = (hi ++ lo : BitVec 16).toNat →
        (t = .lineTable ∨ t = .stationTable ∨ t = .accessTable → ¬ HasHouse s p → refuses .denied) ∧
        (∀ (i : ScreenId) (body : List Byte), bytes = numberParam i :: body →
          t = .cueList ∨ t = .renderTable ∨ t = .preset ∨ t = .settings →
          (¬ Covers s p i → refuses .denied) ∧ (Covers s p i → (s.control i).lock = true → refuses .locked) ∧
          (Covers s p i → (s.control i).lock = false →
            (t = .cueList →
              ((s.control i).state = .inShow → refuses .wrongState) ∧
              ((s.control i).state ≠ .inShow →
                (wholeMembers 12 body = none → refuses .badLength) ∧
                ∀ members, wholeMembers 12 body = some members →
                  (readAll (cueOf fun l => (s.line l).accepts i) members = none → refuses .badArgument) ∧
                  ∀ cues, readAll (cueOf fun l => (s.line l).accepts i) members = some cues →
                    (cueRoom s i < cues.length → refuses .cueMemoryFull) ∧
                    (cues.length ≤ cueRoom s i → ∃ sorted payload, CuesTaken cues sorted ∧
                      ends (s.modControl i fun c => { c with cues := sorted }) payload))) ∧
            (t = .renderTable →
              (body = [] ∨ takeRowSets bytes.length body = none → refuses .badLength) ∧
              ∀ raw, body ≠ [] → takeRowSets bytes.length body = some raw →
                (¬ RowSetsFit raw → refuses .badArgument) ∧
                (RowSetsFit raw → ∀ new, TableTaken raw (s.screen i).renderer.table new →
                  (192 < termTotal new → refuses .tableFull) ∧
                  (termTotal new ≤ 192 →
                    ends (s.modRenderer i fun r => { r with table := new }) (byte (termTotal new))))) ∧
            (t = .preset →
              (body = [] → refuses .badLength) ∧
              ∀ (b : Byte) (entries : List Byte), body = b :: entries →
                (3 < b.toNat → refuses .badArgument) ∧
                ∀ n : PresetId, b = BitVec.ofNat 8 n.val →
                  (n = 0 → (s.equaliser i).commissioned.isSome = true → refuses .commissioned) ∧
                  (n ≠ 0 ∨ (s.equaliser i).commissioned = none →
                    (∀ r claim, (s.equaliser i).switch = .cutOut r claim → r.preset = n → refuses .busy) ∧
                    ((∀ r claim, (s.equaliser i).switch = .cutOut r claim → r.preset ≠ n) →
                      (∀ reason, presetOf entries = .error reason → refuses reason) ∧
                      ∀ content, presetOf entries = .ok content →
                        ends (s.modEqualiser i fun e => { e with bank := Tab.set e.bank n content })
                          (numberByte i ++ byte n.val ++ byte (totalSections content))))) ∧
            (t = .settings →
              (bytes.length ≠ 42 → refuses .badLength) ∧
              (bytes.length = 42 → settingsOf bytes = none → refuses .badArgument) ∧
              ∀ v, bytes.length = 42 → settingsOf bytes = some v →
                ∃ u, ends u [numberParam i] ∧ (u.screen i).settings = v ∧ SameDevice s u ∧ SameOthers i s u))) ∧
        ((∀ i : ScreenId, bytes.head? ≠ some (numberParam i)) →
          (t = .cueList ∨ t = .preset → refuses .badArgument) ∧
          (t = .settings → if bytes.length = 42 then refuses .badArgument else refuses .badLength) ∧
          (t = .renderTable → if bytes.tail = [] ∨ takeRowSets bytes.length bytes.tail = none then refuses .badLength
            else refuses .badArgument)) ∧
        (HasHouse s p →
          (t = .lineTable →
            (bytes.length ≠ 48 → refuses .badLength) ∧ (bytes.length = 48 → ¬ LineBytesFit bytes → refuses .badArgument) ∧
            (LineBytesFit bytes → ∃ lines, LinesTaken bytes s.lines lines ∧ ends { s with lines := lines } [])) ∧
          (t = .accessTable →
            (bytes.length ≠ 10 → refuses .badLength) ∧
            (bytes.length = 10 → (∀ k : PortId, bytes.getD (2 * k.val + 1) 0#8 = 0#8) → refuses .badArgument) ∧
            (bytes.length = 10 → (∃ k : PortId, bytes.getD (2 * k.val + 1) 0#8 ≠ 0#8) →
              ∃ u payload, ends u payload ∧ u.screens = s.screens ∧ u.lines = s.lines ∧ u.loop = s.loop ∧
                AccessTaken bytes s.port u.port ∧
                payload = (List.finRange 5).flatMap fun k : PortId =>
                  byte ((bytes.getD (2 * k.val) 0#8).toNat % 16) ++ flagByte (bytes.getD (2 * k.val + 1) 0#8 != 0#8))) ∧
          (t = .stationTable →
            (bytes.length ≠ 8 → refuses .badLength) ∧
            (bytes.length = 8 → stationTableOf bytes = none → refuses .badArgument) ∧
            ∀ table, bytes.length = 8 → stationTableOf bytes = some table →
              ∃ v, StationsTaken table s v ∧ ends (arbitrate v) [] ∧ (arbitrate v).loop.table = table ∧
                v.lines = s.lines ∧ v.ports = s.ports)))

/-! ### Long operations -/

/-- R183: ABORT of a RUNNING entry, by its owner or under house right, ends a calibration request, a waiting activation, or a
STORE after the record being written; an unknown ticket, another port's entry, a kind that cannot be aborted, a DONE entry and
an activation already decided are refused.  The payload of ABORT is deduced (log 12). -/
def Obligations.AbortEndsTheOperation : Prop :=
  ∀ (s : State) (p : PortId) (b : Byte), CompletionsSound s → Executing s p 0x1F#8 [b] →
    let refuses (r : Reason) : Prop := exec (.abort p [b]) s = .next (refused s p 0x1F#8 r)
    ((∀ e ∈ s.completions.entries, e.ticket ≠ b.toNat) → refuses .noSuchTicket) ∧
    ∀ e ∈ s.completions.entries, e.ticket = b.toNat →
      (e.owner ≠ p → ¬ HasHouse s p → refuses .denied) ∧
      (e.owner = p ∨ HasHouse s p →
        (e.kind = .recallStored ∨ e.kind = .wipeScreen → refuses .badArgument) ∧
        (e.kind ≠ .recallStored → e.kind ≠ .wipeScreen → e.done.isSome = true → refuses .tooLate) ∧
        (e.done = none →
          (∀ i mask, e.kind = .calibrate i mask → (∃ r ∈ s.calibration, r.ticket = e.ticket) →
            ∃ u, exec (.abort p [b]) s = .next (answered u p 0x1F#8 [b, 1#8]) ∧
              u.calibration = s.calibration.filter (fun r => r.ticket != e.ticket) ∧
              (∃ d, d.termination = .abrupt ∧ d.reason = .ok ∧
                u.completions.entries = s.completions.entries.map (fun x =>
                  if x = e then { e with done := some d } else x)) ∧
              u.screens = s.screens ∧ u.pool = s.pool ∧ u.alarms = s.alarms ∧ u.ports = s.ports ∧ u.store = s.store) ∧
          (∀ i n, e.kind = .selectPreset → (s.equaliser i).pending = some ⟨n, .command e.ticket⟩ →
            (∀ j, j ≠ i → ∀ k, (s.equaliser j).pending ≠ some ⟨k, .command e.ticket⟩) →
            ∃ u, exec (.abort p [b]) s = .next (answered u p 0x1F#8 [b, 1#8]) ∧
              u.completions.entries = s.completions.entries.map (fun x =>
                if x = e then { e with done := some ⟨.abrupt, .ok, [4#8], s.completions.nextOrder⟩ } else x) ∧
              u.screens = (s.modEqualiser i fun q => { q with pending := none }).screens ∧ u.pool = s.pool ∧
              u.alarms = s.alarms ∧ u.ports = s.ports ∧ u.store = s.store ∧ u.calibration = s.calibration) ∧
          (e.kind = .selectPreset → (∀ i n, (s.equaliser i).pending ≠ some ⟨n, .command e.ticket⟩) →
            refuses .tooLate) ∧
          ∀ ticket t w left written retired aborting, e.kind = .store →
            s.store.op = .store ticket t w left written retired aborting →
            exec (.abort p [b]) s =
              .next (answered
                { s with store := { s.store with op := .store ticket t w left written retired true } } p 0x1F#8
                [b, 0#8])))

/-- R190, R191, R192, R193, R176, R189: STORE, RECALL and WIPE SCREEN take a completion entry under a fresh ticket and begin
with their first record; COMMISSION marks the screen with the trims of preset 0 and begins the write of PRESET0. Each asks for
its right, for the store not bypassed and for no store operation running; RECALL and COMMISSION for the lock clear, WIPE SCREEN
for DARK. Otherwise it is refused and nothing changes: BAD_ARGUMENT out of range, DENIED without the right, WRONG_STATE under
STORE BYPASS, outside DARK (WIPE SCREEN) or in SHOW (COMMISSION), LOCKED under the lock, and BUSY after the others while a store
operation runs or, but for COMMISSION, with no entry free; for COMMISSION BUSY stands before STORE BYPASS. What a record's bytes
are is the model's choice (log 9), and so is that the sixteen trims of COMMISSION's payload have no count byte (log 12). -/
def Obligations.StoreCommandsBegin : Prop :=
  (∀ (s : State) (p : PortId), s.straps.storeBypass = false → s.store.op = .none → CompletionsSound s →
    let accepted (op ticket : Byte) : ResultRecord := ⟨op, .normal, .accepted, [ticket]⟩
    (s.completions.entries.length < 8 → ∃ ticket, FreshTicket s ticket ∧
      (∀ (t : StoreTarget) (b : Byte) (r : RecordId) (rest : List RecordId) (q : PlaceId),
        (t = .device ∧ b = 0#8 ∧ HasHouse s p) ∨ (∃ i, t = .screen i ∧ b = numberParam i ∧ Covers s p i) →
        targetRecords t = r :: rest → targetPlace s r = some q → Executing s p 0x23#8 [b] →
        exec (.store p [b]) s = .next (placeResult
          { s with
            completions := entered s ticket p .store
            store := { s.store with op := .store ticket t ⟨r, q, recordContent s r⟩ rest 0 [] false } } p
          (accepted 0x23#8 (BitVec.ofNat 8 ticket)))) ∧
      (∀ (i : ScreenId) (k : Fin 8), Covers s p i → (s.control i).lock = false →
        Executing s p 0x24#8 [numberParam i, BitVec.ofNat 8 k.val] →
        let records := if h : k.val < 7 then [screenRecord i ⟨k.val, h⟩] else screenRecords i
        exec (.recallStored p [numberParam i, BitVec.ofNat 8 k.val]) s = .next (placeResult
          { s with
            completions := entered s ticket p .recallStored
            store := { s.store with op := .recallStored ticket (.screen i) k.val records [] } } p
          (accepted 0x24#8 (BitVec.ofNat 8 ticket)))) ∧
      (HasHouse s p → Executing s p 0x24#8 [0#8, 0#8] →
        exec (.recallStored p [0#8, 0#8]) s = .next (placeResult
          { s with
            completions := entered s ticket p .recallStored
            store := { s.store with op := .recallStored ticket .device 0 [deviceRecord] [] } } p
          (accepted 0x24#8 (BitVec.ofNat 8 ticket)))) ∧
      ∀ i : ScreenId, Covers s p i → (s.control i).state = .dark → Executing s p 0x25#8 [numberParam i] →
        ∃ u, exec (.wipeScreen p [numberParam i]) s =
            .next (placeResult u p (accepted 0x25#8 (BitVec.ofNat 8 ticket))) ∧
          u.equaliser i = { s.equaliser i with commissioned := none } ∧ u.store.places = s.store.places ∧
          u.store.map = s.store.map ∧
          (∀ r, Tab.get u.store.faults r =
            (Tab.get s.store.faults r && !(decide (r ∈ screenRecords i) && (Tab.get s.store.map r).isNone))) ∧
          (let left := (screenRecords i).filterMap fun r => (Tab.get s.store.map r).map fun q => (r, q)
           (left ≠ [] → u.store.op = .wipe ticket i left 0 ∧ u.completions = entered s ticket p .wipeScreen) ∧
           (left = [] → u.store.op = .none ∧ DoneAs s u ticket .normal .ok [0#8]))) ∧
    ∀ (i : ScreenId) (q : PlaceId), Covers s p i → (s.control i).state ≠ .inShow → (s.control i).lock = false →
      targetPlace s (screenRecord i 3) = some q → Executing s p 0x26#8 [numberParam i] →
      let trims := Tab.map FeedEntry.trim (Tab.get (s.equaliser i).bank 0)
      let marked := s.modEqualiser i fun e => { e with commissioned := some trims }
      exec (.commission p [numberParam i]) s =
        .next (answered
          { marked with store := { s.store with
            op := .commission ⟨screenRecord i 3, q, recordContent marked (screenRecord i 3)⟩ } } p 0x26#8
          (numberParam i :: (Tab.list trims).flatMap (signedBytes 1)))) ∧
    ∀ (s : State) (p : PortId),
      let bypassed : Prop := s.straps.storeBypass = true
      let busy : Prop := s.store.op ≠ .none
      let full : Prop := busy ∨ 8 ≤ s.completions.entries.length
      let names (b : Byte) (t : StoreTarget) : Prop := (t = .device ∧ b = 0#8) ∨ ∃ i, t = .screen i ∧ b = numberParam i
      let granted (t : StoreTarget) : Prop := (t = .device → HasHouse s p) ∧ ∀ i, t = .screen i → Covers s p i
      let unlocked (t : StoreTarget) : Prop := ∀ i, t = .screen i → (s.control i).lock = false
      (∀ b : Byte, Executing s p 0x23#8 [b] →
        let answers (r : Reason) : Prop := exec (.store p [b]) s = .next (refused s p 0x23#8 r)
        (4 < b.toNat → answers .badArgument) ∧
          ∀ t, names b t → (¬ granted t → answers .denied) ∧ (granted t → bypassed → answers .wrongState) ∧
            (granted t → ¬ bypassed → full → answers .busy)) ∧
      (∀ b v : Byte, Executing s p 0x24#8 [b, v] →
        let answers (r : Reason) : Prop := exec (.recallStored p [b, v]) s = .next (refused s p 0x24#8 r)
        (4 < b.toNat ∨ (b ≠ 0#8 ∧ 7 < v.toNat) → answers .badArgument) ∧
          ∀ t, names b t → (t = .device → v = 0#8) → v.toNat ≤ 7 → (¬ granted t → answers .denied) ∧
            (granted t → ¬ unlocked t → answers .locked) ∧ (granted t → unlocked t → bypassed → answers .wrongState) ∧
            (granted t → unlocked t → ¬ bypassed → full → answers .busy)) ∧
      (∀ b : Byte, Executing s p 0x25#8 [b] →
        let answers (r : Reason) : Prop := exec (.wipeScreen p [b]) s = .next (refused s p 0x25#8 r)
        (b = 0#8 ∨ 4 < b.toNat → answers .badArgument) ∧
          ∀ i, b = numberParam i → (¬ Covers s p i → answers .denied) ∧
            (Covers s p i → (s.control i).state ≠ .dark ∨ bypassed → answers .wrongState) ∧
            (Covers s p i → (s.control i).state = .dark → ¬ bypassed → full → answers .busy)) ∧
      ∀ b : Byte, Executing s p 0x26#8 [b] →
        let answers (r : Reason) : Prop := exec (.commission p [b]) s = .next (refused s p 0x26#8 r)
        (b = 0#8 ∨ 4 < b.toNat → answers .badArgument) ∧
          ∀ i, b = numberParam i → (¬ Covers s p i → answers .denied) ∧
            (Covers s p i → (s.control i).state = .inShow → answers .wrongState) ∧
            (Covers s p i → (s.control i).state ≠ .inShow → (s.control i).lock = true → answers .locked) ∧
            (Covers s p i → (s.control i).state ≠ .inShow → (s.control i).lock = false → busy → answers .busy) ∧
            (Covers s p i → (s.control i).state ≠ .inShow → (s.control i).lock = false → ¬ busy → bypassed →
              answers .wrongState)

/-- R190, R193, R187: a write that verifies makes the place the record's and clears its fault mark, and STORE goes on with the
next record or is done; one that does not verify retires the place, and the record is written to the lowest free spare, or its
fault mark is set and the operation ends. STORE_FAULT stands while any record has a mark, and its start and end are reported
(R98). Nothing outside the store, the completion table and the alarm table changes. What a retired place holds is free (log 8);
that a STORE with no spare left ends with STORE_FAULT under an ABORT too, and that its payload is the full one, is the model's
choice (log 19). -/
def Obligations.WritesComplete : Prop :=
  ∀ (s : State) (w : Writing), Running s → CompletionsSound s →
    let written (u : State) : Prop :=
      Tab.get u.store.places w.place = recordPlace w.record w.bytes ∧ Tab.get u.store.map w.record = some w.place ∧
        Tab.get u.store.faults w.record = false ∧ u.store.retired = s.store.retired
    let retiredNow (u : State) (took : Bool) : Prop :=
      Tab.get u.store.retired w.place = true ∧ Tab.get u.store.map w.record = none ∧
        (Tab.get u.store.places w.place).state = if took then 0x00#8 else 0x5A#8
    let stands (m : RecordId → Bool) : Bool := (List.finRange 29).any m
    let marked (r : RecordId) (on : Bool) (m : RecordId → Bool) (r' : RecordId) : Bool := if r' = r then on else m r'
    let faulty : RecordId → Bool := fun r => Tab.get s.store.faults r
    let told (before after : RecordId → Bool) (a : AlarmTable) : AlarmTable :=
      changeReported s.houseTime .storeFault .device (stands before) (stands after) a
    let cleared := marked w.record false faulty
    let ending (t : StoreTarget) (n : Nat) (places : List PlaceId) : List Byte :=
      (match t with
        | .device => [0#8]
        | .screen i => [numberParam i]) ++ byte n ++ byte places.length ++ places.map fun q => BitVec.ofNat 8 q.val
    (∀ ticket t left n places aborting took, s.store.op = .store ticket t w left n places aborting →
      RunningEntry s ticket →
      (∃ u, exec (.storeWriteComplete true took) s = .next u ∧ SameWork s u ∧ SameStoreBut w.record w.place s u ∧
        written u ∧ u.alarms = told faulty cleared s.alarms ∧
        (aborting = true → u.store.op = .none ∧ DoneAs s u ticket .abrupt .ok (ending t (n + 1) places)) ∧
        (aborting = false →
          (left = [] → u.store.op = .none ∧ DoneAs s u ticket .normal .ok (ending t (n + 1) places)) ∧
          ∀ r rest q, left = r :: rest → targetPlace u r = some q →
            u.store.op = .store ticket t ⟨r, q, recordContent s r⟩ rest (n + 1) places false ∧
              u.completions = s.completions)) ∨
        (aborting = false ∧ ∃ r rest u, left = r :: rest ∧ exec (.storeWriteComplete true took) s = .next u ∧
          targetPlace u r = none ∧ u.store.op = .none ∧ Tab.get u.store.faults r = true ∧
          u.alarms = told cleared (marked r true cleared) (told faulty cleared s.alarms) ∧
          DoneAs s u ticket .abrupt .storeFault (ending t (n + 1) places))) ∧
    (∀ ticket t left n places aborting took, s.store.op = .store ticket t w left n places aborting →
      RunningEntry s ticket →
      ∃ u, exec (.storeWriteComplete false took) s = .next u ∧ SameWork s u ∧ SameStoreBut w.record w.place s u ∧
        retiredNow u took ∧
        (∀ q, lowestSpare u = some q →
          u.store.op = .store ticket t { w with place := q } left n (places ++ [w.place]) aborting ∧
            u.completions = s.completions ∧ u.store.faults = s.store.faults ∧ u.alarms = s.alarms) ∧
        (lowestSpare u = none → u.store.op = .none ∧ Tab.get u.store.faults w.record = true ∧
          u.alarms = told faulty (marked w.record true faulty) s.alarms ∧
          DoneAs s u ticket .abrupt .storeFault (ending t n (places ++ [w.place])))) ∧
    ∀ took, s.store.op = .commission w →
      (∃ u, exec (.storeWriteComplete true took) s = .next u ∧ SameWork s u ∧ SameStoreBut w.record w.place s u ∧
        written u ∧ u.alarms = told faulty cleared s.alarms ∧ u.store.op = .none ∧ u.completions = s.completions) ∧
      ∃ u, exec (.storeWriteComplete false took) s = .next u ∧ SameWork s u ∧ SameStoreBut w.record w.place s u ∧
        retiredNow u took ∧ u.completions = s.completions ∧
        (∀ q, lowestSpare u = some q → u.store.op = .commission { w with place := q } ∧
          u.store.faults = s.store.faults ∧ u.alarms = s.alarms) ∧
        (lowestSpare u = none → u.store.op = .none ∧ Tab.get u.store.faults w.record = true ∧
          u.alarms = told faulty (marked w.record true faulty) s.alarms)

/-- R122, R191, R192, R65: a read of RECALL notes its record as ABSENT, as BAD with a fault mark where its checksum does not
match or its content is no such record, or, with the lock clear, as APPLIED, DEFERRED or NOT_APPLIED: a DEVICE record commits
the access, line and station tables, SETTINGS the settings and the calibration data, RENDER the render table, CUES the cue list
of a screen outside SHOW where it fits, PRESET a bank entry. The show lock ends the operation; after the last record the entry
is DONE. An erasure empties its place, takes the record off the map and clears its fault mark. The start and end of STORE_FAULT
are reported (R98). The payload of a RECALL that the lock ends is deduced (log 12); the layout of a record and what an EMPTY
place holds besides its state byte (log 9), and that a CUES record that does not fit sets no fault mark (log 19), are the
model's choice. -/
def Obligations.ReadsAndErasuresComplete : Prop :=
  ∀ s : State, Running s → CompletionsSound s →
    let marks (u : State) : Bool := (List.finRange 29).any fun r => Tab.get u.store.faults r
    let markTold (s u : State) : Prop :=
      u.alarms = changeReported s.houseTime .storeFault .device (marks s) (marks u) s.alarms
    (∀ ticket t selector r rest outcomes, s.store.op = .recallStored ticket t selector (r :: rest) outcomes →
      RunningEntry s ticket →
      let payload (os : List RecallOutcome) : List Byte :=
        targetByte t ++ byte selector ++ byte os.length ++ os.flatMap RecallOutcome.bytes
      let goesOn (u : State) (o : RecallOutcome) : Prop :=
        exec .recallReadComplete s = .next u ∧
          (rest ≠ [] → u.store.op = .recallStored ticket t selector rest (outcomes ++ [o]) ∧
            u.completions = s.completions) ∧
          (rest = [] → u.store.op = .none ∧ DoneAs s u ticket .normal .ok (payload (outcomes ++ [o])))
      (Tab.get s.store.map r = none → ∃ u, goesOn u .absent ∧ SameWork s u ∧ u.store.faults = s.store.faults ∧
        u.alarms = s.alarms) ∧
      ∀ q, Tab.get s.store.map r = some q →
        ((Tab.get s.store.places q).read = none →
          ∃ u, goesOn u .bad ∧ SameWork s u ∧ Tab.get u.store.faults r = true ∧ markTold s u) ∧
        ∀ bytes, (Tab.get s.store.places q).read = some bytes →
          (∀ i, t = .screen i → (s.control i).lock = true →
            ∃ u, exec .recallReadComplete s = .next u ∧ SameWork s u ∧ u.store.op = .none ∧
              DoneAs s u ticket .abrupt .locked (payload outcomes)) ∧
          ∀ i n d, t = .screen i → (s.control i).lock = false → recordName r = .preset i n →
            presetRecordOf n bytes = some d → d.preset = n →
            (n = 0 → d.commissioned = none → (s.equaliser i).commissioned.isSome = true →
              ∃ u, goesOn u .notApplied ∧ SameWork s u) ∧
            ((n ≠ 0 ∨ d.commissioned.isSome = true ∨ (s.equaliser i).commissioned = none) →
              (∀ v claim, (s.equaliser i).switch = .cutOut v claim → v.preset = n →
                ∃ u, goesOn u .deferred ∧ u.equaliser i = { s.equaliser i with deferred := some d }) ∧
              ((∀ v claim, (s.equaliser i).switch = .cutOut v claim → v.preset ≠ n) →
                ∃ u, goesOn u .applied ∧ SameOthers i s u ∧ u.equaliser i = { s.equaliser i with
                  bank := Tab.set (s.equaliser i).bank n d.content
                  commissioned := if n = 0 then d.commissioned else (s.equaliser i).commissioned }))) ∧
    (∀ ticket t selector r rest outcomes q bytes, s.store.op = .recallStored ticket t selector (r :: rest) outcomes →
      RunningEntry s ticket → Tab.get s.store.map r = some q → (Tab.get s.store.places q).read = some bytes →
      (∀ i, t = .screen i → (s.control i).lock = false) →
      let payload (os : List RecallOutcome) : List Byte :=
        targetByte t ++ byte selector ++ byte os.length ++ os.flatMap RecallOutcome.bytes
      let goesOn (u : State) (o : RecallOutcome) : Prop :=
        exec .recallReadComplete s = .next u ∧ u.store.map = s.store.map ∧ u.store.places = s.store.places ∧
          (rest ≠ [] → u.store.op = .recallStored ticket t selector rest (outcomes ++ [o]) ∧
            u.completions = s.completions) ∧
          (rest = [] → u.store.op = .none ∧ DoneAs s u ticket .normal .ok (payload (outcomes ++ [o])))
      let bad : Prop := ∃ u, goesOn u .bad ∧ SameWork s u ∧ Tab.get u.store.faults r = true ∧ markTold s u
      let keeps (u : State) : Prop := u.store.faults = s.store.faults ∧ u.safety = s.safety ∧ u.scanner = s.scanner ∧
        u.calibration = s.calibration ∧ u.pool = s.pool ∧ u.houseTime = s.houseTime
      (recordName r = .device →
        (∀ table, bytes.length = 66 → (∃ k : PortId, bytes.getD (2 * k.val + 1) 0#8 ≠ 0#8) →
          LineBytesFit ((bytes.drop 10).take 48) → stationTableOf (bytes.drop 58) = some table →
          ∃ u v, goesOn u .applied ∧ keeps u ∧ AccessTaken bytes s.port u.port ∧
            LinesTaken ((bytes.drop 10).take 48) s.lines u.lines ∧ StationsTaken table s v ∧ u.loop = (arbitrate v).loop ∧
            u.screens = v.screens) ∧
        (bytes.length ≠ 66 ∨ (∀ k : PortId, bytes.getD (2 * k.val + 1) 0#8 = 0#8) ∨
          ¬ LineBytesFit ((bytes.drop 10).take 48) ∨ stationTableOf (bytes.drop 58) = none → bad)) ∧
      ∀ i : ScreenId,
        (recordName r = .settings i →
          (∀ v, bytes.length = 122 → settingsOf (bytes.take 42) = some v →
            (∀ f : FeedId, (bytes.getD (42 + 5 * f.val) 0#8).toNat ≤ 1) →
            ∃ u, goesOn u .applied ∧ keeps u ∧ SameOthers i s u ∧
              u.screen i = { s.screen i with settings := v, feeds := (u.screen i).feeds } ∧
              CalibrationTaken bytes (u.screen i).feeds ∧
              (∀ f, Tab.get (u.screen i).feeds f = { Tab.get (s.screen i).feeds f with
                calibration := (Tab.get (u.screen i).feeds f).calibration
                firstDue := (Tab.get (u.screen i).feeds f).firstDue }) ∧
              u.lines = s.lines ∧ u.loop = s.loop ∧ u.ports = s.ports) ∧
          (bytes.length ≠ 122 ∨ settingsOf (bytes.take 42) = none ∨
            (∃ f : FeedId, 1 < (bytes.getD (42 + 5 * f.val) 0#8).toNat) → bad)) ∧
        (recordName r = .render i →
          (∀ raw new, takeRowSets bytes.length (bytes.drop 1) = some raw → RowSetsFit raw →
            TableTaken raw (s.screen i).renderer.table new →
            (termTotal new ≤ 192 → ∃ u, goesOn u .applied ∧ keeps u ∧
              u.screens = (s.modRenderer i fun x => { x with table := new }).screens ∧ u.lines = s.lines ∧
              u.loop = s.loop ∧ u.ports = s.ports) ∧
            (192 < termTotal new → bad)) ∧
          ((∀ raw, takeRowSets bytes.length (bytes.drop 1) = some raw → ¬ RowSetsFit raw) → bad)) ∧
        (recordName r = .cues i →
          ((s.control i).state = .inShow → ∃ u, goesOn u .notApplied ∧ SameWork s u ∧ u.store.faults = s.store.faults) ∧
          ((s.control i).state ≠ .inShow →
            (∀ members cues, wholeMembers 12 (bytes.drop 1) = some members →
              readAll (cueOf fun _ => true) members = some cues →
              (cueRoom s i < cues.length →
                ∃ u, goesOn u .notApplied ∧ SameWork s u ∧ u.store.faults = s.store.faults) ∧
              (cues.length ≤ cueRoom s i → ∃ u sorted, goesOn u .applied ∧ keeps u ∧ CuesTaken cues sorted ∧
                u.screens = (s.modControl i fun c => { c with cues := sorted }).screens ∧ u.lines = s.lines ∧
                u.loop = s.loop ∧ u.ports = s.ports)) ∧
            ((∀ members, wholeMembers 12 (bytes.drop 1) = some members →
                readAll (cueOf fun _ => true) members = none) → bad))) ∧
        ∀ n, recordName r = .preset i n → presetRecordOf n bytes = none → bad) ∧
    ∀ ticket i r q rest erased, s.store.op = .wipe ticket i ((r, q) :: rest) erased → RunningEntry s ticket →
      ∃ u, exec .eraseComplete s = .next u ∧ SameWork s u ∧ SameStoreBut r q s u ∧
        Tab.get u.store.places q = Place.empty ∧ Tab.get u.store.map r = none ∧ Tab.get u.store.faults r = false ∧
        markTold s u ∧
        (rest ≠ [] → u.store.op = .wipe ticket i rest (erased + 1) ∧ u.completions = s.completions) ∧
        (rest = [] → u.store.op = .none ∧ DoneAs s u ticket .normal .ok (byte (erased + 1)))

/-! ### Lanes -/

/-- R1, R4, R10, R18: a word-frame's fourteen samples are held for the sample period, a lane in ABSENT goes to SEARCH, and a
second frame within a period changes nothing (log 4); 48 sample periods without a frame bring ABSENT, with a stream loss at the
position after the block being rendered where the stream was locked; a non-sync frame is held for its period. That the block of
loss is the one in reception at the recognition, that an entry into ABSENT from SEARCH or VERIFY leaves a block of loss that is
still to be rendered, and that a second non-sync frame replaces the first, is the model's choice (log 21), and so is that an
absence row with less than the full silence changes nothing, nor a word-frame of other than sixteen words (log 16). -/
def Obligations.FramesArriveAndCease : Prop :=
  ∀ s : State, Running s →
    (∀ (i : ScreenId) (words : List Word), words.length ≠ 16 → exec (.wordFrameArrival i words) s = .next s) ∧
    (∀ (i : ScreenId) (words : List Word), words.length = 16 →
      let l := (s.screen i).lane
      (l.arrived.isSome = true → exec (.wordFrameArrival i words) s = .next s) ∧
      (l.arrived = none → ∃ u f, exec (.wordFrameArrival i words) s = .next u ∧
        (u.screen i).lane.arrived = some f ∧ (∀ c : ChannelId, words[c.val]? = some (Tab.get f c)) ∧
        (u.screen i).lane.silence = 0 ∧ (u.screen i).lane.hold = l.hold ∧
        (l.stream = .absent → (u.screen i).lane.stream = .search) ∧
        u.screen i = { s.screen i with lane := (u.screen i).lane } ∧ SameOthers i s u ∧
        SameDevice { s with alarms := u.alarms } u)) ∧
    (∀ left right : Word, exec (.nonSyncFrameArrival left right) s =
      .next { s with nonSync := ⟨some (left, right), s.nonSync.hold⟩ }) ∧
    ∀ i : ScreenId,
      let l := (s.screen i).lane
      (l.silence < 48 ∨ l.stream = .absent → exec (.laneAbsenceTimeout i) s = .next s) ∧
      (48 ≤ l.silence → l.stream = .search ∨ l.stream = .verify →
        exec (.laneAbsenceTimeout i) s = .next (s.modLane i fun l =>
          { l with stream := .absent, missCount := 0, candidate := none, position := none, words := [] })) ∧
      (48 ≤ l.silence → l.stream = .locked ∨ l.stream = .holdover →
        ∃ u, exec (.laneAbsenceTimeout i) s = .next u ∧
          (let l' := (u.screen i).lane
           l'.stream = .absent ∧ l'.lost = true ∧ l'.formatUnknown = false ∧ l'.missCount = 0 ∧ l'.expected = none ∧
             l'.position = none ∧ l'.candidate = none ∧ l'.format = l.format ∧ l'.heldOffset = l.heldOffset ∧
             l'.heldMask = l.heldMask ∧ l'.notice = l.notice ∧
             ∀ r, l.alignIn = none → l.rendering.report = some r →
               l'.receiving.report = some (.streamLost (nextPosition r.position))) ∧
          (l.lost = false → l.formatUnknown = false →
            u.alarms = s.alarms.start s.houseTime .lost (.screen i)) ∧
          u.screen i = { s.screen i with lane := (u.screen i).lane } ∧ SameOthers i s u ∧
          SameDevice { s with alarms := u.alarms } u)

/-- R5, R6, R7, R12, R13, R16: in SEARCH the first well-formed six words are the candidate; in VERIFY the words 480 positions
later lock the stream when they carry the next sequence number and the same code, are the new candidate when they are well
formed otherwise, and send the receiver back to SEARCH when they are not. R16: a lock whose known code differs from the format
the lane held is noted, with both formats and the position, as the first, the second or a later change; which of two formats
counts as held, where a change taken before the loss still renders, is the model's choice (log 21). -/
def Obligations.StreamLocks : Prop :=
  ∀ (s : State) (i : ScreenId) (words : List Word), Running s → (s.screen i).lane.arrived = none → words.length = 16 →
    let l := (s.screen i).lane
    (∀ w0 w1 w2 w3 w4 w5 : Word, l.heard w0 w1 w2 w3 w4 → words[14]? = some w5 → WellFormedWords w0 w1 w2 w3 w4 w5 →
      let code := (w1.extractLsb' 20 4).toNat
      let sequence := (w1.extractLsb' 0 8).toNat
      (l.stream = .search → ∃ u, exec (.wordFrameArrival i words) s = .next u ∧
        (u.screen i).lane.stream = .verify ∧ (u.screen i).lane.candidate = some ⟨sequence, code, 5⟩ ∧
        u.alarms = s.alarms) ∧
      ∀ c, l.stream = .verify → l.candidate = some c → c.age = 485 →
        (¬ (sequence = (c.sequence + 1) % 256 ∧ code = c.code) →
          ∃ u, exec (.wordFrameArrival i words) s = .next u ∧ (u.screen i).lane.stream = .verify ∧
            (u.screen i).lane.candidate = some ⟨sequence, code, 5⟩) ∧
        (sequence = (c.sequence + 1) % 256 → code = c.code →
          ∃ u, exec (.wordFrameArrival i words) s = .next u ∧
            (let l' := (u.screen i).lane
             let offset := max (-200) (min 0 w3.toInt)
             let mask := w4.extractLsb' 0 14
             l'.stream = .locked ∧ l'.missCount = 0 ∧ l'.expected = some sequence ∧ l'.position = some w2.toNat ∧
               l'.heldOffset = offset ∧ l'.heldMask = mask ∧ l'.lost = false ∧ l'.candidate = none ∧
               l'.formatCandidate = none ∧ l'.alignIn = some 475 ∧
               l'.receiving = ⟨some (.streamLocked w2.toNat), offset, mask, none⟩ ∧
               (code < 7 → l'.format.val = code ∧ l'.formatAhead.val = code ∧ l'.formatUnknown = false ∧
                 (l'.format = l.format → l'.notice = l.notice) ∧
                 (l'.format ≠ l.format → NoticeTakes l.notice ⟨l.format, l'.format, w2.toNat⟩ l'.notice)) ∧
               (7 ≤ code → l'.format = l.format ∧ l'.formatUnknown = true ∧ l'.notice = l.notice)) ∧
            (l.lost = true → l.formatUnknown = false → code < 7 →
              u.alarms = s.alarms.finish s.houseTime .lost (.screen i)))) ∧
    ∀ c, l.stream = .verify → l.candidate = some c → c.age = 485 → (l.take words).window = none →
      ∃ u, exec (.wordFrameArrival i words) s = .next u ∧ (u.screen i).lane.stream = .search ∧
        (u.screen i).lane.candidate = none

/-- R8, R9, R10, R11, R12, R14, R15, R16: in LOCKED and HOLDOVER the words at positions 0 to 5 of a block are good when they are
well formed with the expected sequence number: the block takes their position, offset, mask and, at the second of two equal
codes, their format, which the format notice records with the format before and the position. Bad ones hold position, offset and
mask, until N_miss bad blocks in a row lose the stream. That the expected sequence takes its place at the judgement of word 5,
and that the held mask is kept at the loss of the stream, is the model's choice (log 21). -/
def Obligations.LockedBlocksAreJudged : Prop :=
  ∀ (s : State) (i : ScreenId) (words : List Word) (e p : Nat), Running s → (s.screen i).lane.arrived = none →
    words.length = 16 →
    let l := (s.screen i).lane
    l.stream = .locked ∨ l.stream = .holdover → l.alignIn = none → (s.screen i).path.index = 5 →
    l.expected = some e → l.position = some p →
    let next := (e + 1) % 256
    (∀ w0 w1 w2 w3 w4 w5 : Word, l.heard w0 w1 w2 w3 w4 → words[14]? = some w5 → WellFormedWords w0 w1 w2 w3 w4 w5 →
      (w1.extractLsb' 0 8).toNat = next →
      ∃ u, exec (.wordFrameArrival i words) s = .next u ∧
        let l' := (u.screen i).lane
        let code := (w1.extractLsb' 20 4).toNat
        let offset := max (-200) (min 0 w3.toInt)
        let mask := w4.extractLsb' 0 14
        let current := l.rendering.change.getD l.format
        l'.stream = .locked ∧ l'.missCount = 0 ∧ l'.expected = some next ∧ l'.position = some w2.toNat ∧
          l'.heldOffset = offset ∧ l'.heldMask = mask ∧ l'.lost = l.lost ∧ l'.format = l.format ∧
          l'.receiving.offset = offset ∧ l'.receiving.mask = mask ∧
          l'.receiving.report =
            some (if w2.toNat = (p + 1) % 2 ^ 24 then .normal w2.toNat else .jump p w2.toNat) ∧
          (7 ≤ code → l'.formatUnknown = true ∧ l'.formatCandidate = none ∧ l'.receiving.change = none ∧
            l'.notice = l.notice) ∧
          ∀ c : FormatCode, c.val = code → l'.formatUnknown = false ∧
            (c = current → l'.formatCandidate = none ∧ l'.receiving.change = none ∧ l'.notice = l.notice) ∧
            (c ≠ current → l.formatCandidate ≠ some c →
              l'.formatCandidate = some c ∧ l'.receiving.change = none ∧ l'.notice = l.notice) ∧
            (c ≠ current → l.formatCandidate = some c →
              l'.formatCandidate = none ∧ l'.receiving.change = some c ∧
                NoticeTakes l.notice ⟨current, c, w2.toNat⟩ l'.notice)) ∧
    ((∀ d, (l.take words).window = some d → d.sequence ≠ next) →
      let position := (p + 1) % 2 ^ 24
      let nMiss := (s.screen i).settings.nMiss
      ∃ u, exec (.wordFrameArrival i words) s = .next u ∧
        let l' := (u.screen i).lane
        l'.heldOffset = l.heldOffset ∧ l'.heldMask = l.heldMask ∧ l'.format = l.format ∧ l'.notice = l.notice ∧
          l'.receiving.offset = l.heldOffset ∧ l'.receiving.mask = l.heldMask ∧
          (l.missCount + 1 < nMiss → l'.stream = .holdover ∧ l'.missCount = l.missCount + 1 ∧
            l'.expected = some next ∧ l'.position = some position ∧
            l'.receiving.report = some (.normal position) ∧ l'.formatCandidate = l.formatCandidate ∧
            u.alarms = s.alarms) ∧
          (nMiss ≤ l.missCount + 1 → l'.stream = .search ∧ l'.missCount = 0 ∧ l'.expected = none ∧
            l'.position = none ∧ l'.receiving.report = some (.streamLost position) ∧ l'.lost = true ∧
            l'.formatUnknown = false ∧ l'.formatCandidate = none ∧
            (l.lost = false → l.formatUnknown = false →
              u.alarms = s.alarms.start s.houseTime .lost (.screen i))))

/-! ### The signal path -/

/-- R1, R2, R13, R18, R20, R25, R36, R43, R44, R46, R47, R48, R50, R51, R53, R54, R112: a period of the house word clock takes
the frame of every lane into its hold, zeros where none came, counts the silence and the candidate's age, takes a missing frame
as a missing slot-14 word, which fails the window of VERIFY and the descriptor of a locked block at its sixth word (R4, R6, R8,
R9; in SEARCH it breaks the window by the model's choice, log 21), moves every screen's sample index by one, sends 0 on the
feeds of a screen whose screen gate is CLOSED, and the tone on the feed of a sweep. Every feed's render output goes into its
delay memory, and where the screen gate is not CLOSED its delayed samples pass through level, sections and the factors of the
output stage, on both paths in a crossfade, with one clip event for each saturation that changes a value. It waits while a block
boundary is due, by the model's choice (log 4). Where the screen gate is CLOSED no clip event counts: that R58 and R107, whose
entries have the clip count at zero while DARK, are followed there over R53's words is deduced (log 15). That a free-running
block between a lock and its first aligned boundary has zero channels is the model's choice (log 21). -/
def Obligations.SamplePeriodAdvances : Prop :=
  ∀ s : State, Running s →
    ((∃ i, boundaryDue (s.screen i) = true) → exec .samplePeriod s = .next s) ∧
    ((∀ i, boundaryDue (s.screen i) = false) → ∃ u, exec .samplePeriod s = .next u ∧
      u.nonSync = ⟨none, ((s.nonSync.arrived.getD (0#24, 0#24)) :: s.nonSync.hold).take 480⟩ ∧
      (∀ i,
        let c := s.screen i
        let c' := u.screen i
        let tone (f : FeedId) (t : Tone) : Prop :=
          ∃ r rest, s.calibration = r :: rest ∧ r.screen = i ∧ r.tone = some t ∧ t.feed = f
        let moved : Lane := { c.lane with
          hold := (c.lane.arrived.getD (Tab.all 0#24) :: c.lane.hold).take 480
          arrived := none
          alignIn := c.lane.alignIn.map (· - 1)
          candidate := c.lane.candidate.map fun k => { k with age := k.age + 1 } }
        let missed : Lane := { moved with words := none :: c.lane.words.take 5, silence := c.lane.silence + 1 }
        (c.lane.arrived ≠ none → c'.lane = moved) ∧
          (c.lane.arrived = none →
            (c.lane.stream = .absent ∨ c.lane.stream = .search → c'.lane = missed) ∧
            (∀ k, c.lane.stream = .verify → c.lane.candidate = some k →
              (k.age ≠ 485 → c'.lane = missed) ∧
              (k.age = 485 → c'.lane = { missed with stream := .search, candidate := none })) ∧
            (c.lane.stream = .locked ∨ c.lane.stream = .holdover →
              (c.lane.alignIn ≠ none ∨ c.path.index ≠ 5 → c'.lane = missed) ∧
              ∀ e q, c.lane.alignIn = none → c.path.index = 5 → c.lane.expected = some e → c.lane.position = some q →
                (c.lane.missCount + 1 < c.settings.nMiss → c'.lane = { missed with
                  stream := .holdover
                  missCount := c.lane.missCount + 1
                  expected := some ((e + 1) % 256)
                  position := some ((q + 1) % 2 ^ 24)
                  receiving := ⟨some (.normal ((q + 1) % 2 ^ 24)), c.lane.heldOffset, c.lane.heldMask, none⟩ }) ∧
                (c.settings.nMiss ≤ c.lane.missCount + 1 → c'.lane = { missed with
                  stream := .search
                  missCount := 0
                  expected := none
                  position := none
                  formatCandidate := none
                  formatUnknown := false
                  lost := true
                  candidate := none
                  receiving := ⟨some (.streamLost ((q + 1) % 2 ^ 24)), c.lane.heldOffset, c.lane.heldMask,
                    c.lane.receiving.change⟩ }))) ∧
          c'.path.index = c.path.index + 1 ∧
          c'.path.screenGate = c.path.screenGate ∧ c'.path.evacuationGate = c.path.evacuationGate ∧
          c'.path.calibrationGate = c.path.calibrationGate ∧ c'.path.levels = c.path.levels ∧
          c'.path.taken = c.path.taken ∧ c'.renderer = c.renderer ∧ c'.settings = c.settings ∧
          c'.equaliser = c.equaliser ∧ c'.governor = c.governor ∧ c'.control = c.control ∧
          ∀ f,
            let p := Tab.get c.path.feeds f
            let p' := Tab.get c'.path.feeds f
            (∃ x, p'.memory = (x :: p.memory).take 3600) ∧ p'.deadGate = p.deadGate ∧
              p'.peak = max p.peak p'.output.toInt.natAbs ∧
              p'.energy = p.energy + ((p'.output.toInt / 256) * (p'.output.toInt / 256)).toNat ∧
              (c.path.screenGate = .closed → (∀ t, ¬ tone f t) → p'.output = 0#24) ∧
              ∀ t, tone f t → p'.output =
                (let a : Int := min (8 * gain (-660 + 60 * t.step)) 8388607
                 BitVec.ofInt 24 (if c.path.index / 24 % 2 = 0 then a else -a))) ∧
      (SlotsPartitioned s →
        (∀ k, (∀ i, (Filtering (s.screen i) = true → k ∉ filterSlots (s.screen i).renderer.filter) ∧
            ((s.screen i).path.screenGate ≠ .closed → k ∉ recordSlots (s.equaliser i).running ∧
              ∀ v, (s.equaliser i).incoming = some v → k ∉ recordSlots v)) →
          Tab.get u.pool.slots k = Tab.get s.pool.slots k) ∧
        ∀ i,
          let c := s.screen i
          let l := c.lane
          let n := c.path.index
          let e := c.equaliser
          let channel (k : ChannelId) : Int := match c.renderer.current.source with
            | .program => if l.rendering.report.isSome = true ∧ l.rendering.mask.getLsbD k.val = true then
                (match l.hold[479]? with
                  | some frame => (Tab.get frame k).toInt
                  | none => 0)
              else 0
            | .nonsync =>
              let pair := s.nonSync.hold.getD 479 (0#24, 0#24)
              if k = 0 then pair.1.toInt else if k = 1 then pair.2.toInt else 0
            | .mute => 0
          let gate (g : Gate) : Int := match g with
            | .opened => 480
            | .closing => 480 - n
            | .closed => 0
            | .opening => n
          ∃ (f₁ f₂ : Int) (k₁ k₂ : Bool),
            (∀ a b, c.renderer.filter = .held a b → Filtering c = true →
              SectionStep (Tab.get s.pool.slots a) (channel 0) f₁ (Tab.get u.pool.slots a) k₁ ∧
                SectionStep (Tab.get s.pool.slots b) (channel 1) f₂ (Tab.get u.pool.slots b) k₂) ∧
            ∀ f,
              let p := Tab.get c.path.feeds f
              let p' := Tab.get (u.screen i).path.feeds f
              let heard (row : Row) (k : ChannelId) : Int :=
                if Filtering c = true ∧ row.surround = true ∧ k = 0 then f₁
                else if Filtering c = true ∧ row.surround = true ∧ k = 1 then f₂ else channel k
              let v := Tab.get c.renderer.covers f
              let reads (rows : RowSet) (k : ChannelId) : Prop := Filtering c = true ∧
                ∃ g, (g = f ∨ v.steady = some g ∨ v.joining = some g ∨ v.leaving = some g) ∧
                  (Tab.get rows g).surround = true ∧ ∃ x ∈ (Tab.get rows g).terms, x.channel = k
              let quiet : Prop := ∀ r rest x, s.calibration = r :: rest → r.screen = i → r.tone = some x → x.feed ≠ f
              ∃ (r : Int) (clips filterClips : Nat),
                p'.memory = (BitVec.ofInt 24 r :: p.memory).take 3600 ∧
                (c.renderer.current.rows = none → r = 0 ∧ clips = 0 ∧ filterClips = 0) ∧
                (∀ rows, c.renderer.current.rows = some rows →
                  let cover (d : Option FeedId) : Int := match d with
                    | some g => termsValue (heard (Tab.get rows g)) (-30) (Tab.get rows g).terms
                    | none => 0
                  let raw := rounded20 (termsValue (heard (Tab.get rows f)) 0 (Tab.get rows f).terms + cover v.steady)
                    + (rounded20 (cover v.joining) * n).tdiv 480 + (rounded20 (cover v.leaving) * (480 - n)).tdiv 480
                  r = ends24 raw ∧ clips = (if r = raw then 0 else 1) ∧
                    (∀ b₁ b₂ : Bool, (b₁ = true ↔ k₁ = true ∧ reads rows 0) → (b₂ = true ↔ k₂ = true ∧ reads rows 1) →
                      filterClips = b₁.toNat + b₂.toNat)) ∧
                (c.path.screenGate = .closed → p'.clips = min 65535 p.clips) ∧
                (c.path.screenGate ≠ .closed →
                  ∃ (y : Int) (m : Nat),
                    PathRun c f s.pool.slots u.pool.slots r (Tab.get e.running f) (Tab.get c.path.levels.trims f) y m ∧
                    (let factors : List Int :=
                        [gate c.path.screenGate, gate c.path.evacuationGate, gate c.path.calibrationGate, gate p.deadGate,
                          (match c.renderer.ramp with
                            | .steady => 480
                            | .rampOut => 480 - n
                            | .rampIn => n)] ++
                        (match e.switch with
                          | .cutOut _ _ => [480 - (n : Int)]
                          | .cutIn _ => [(n : Int)]
                          | .crossfade _ => []
                          | .none => [])
                     (e.incoming = none → p'.clips = min 65535 (p.clips + (m + clips + filterClips)) ∧
                        (quiet → p'.output = BitVec.ofInt 24 ((y * factors.prod).tdiv (480 ^ factors.length)))) ∧
                      ∀ records, e.incoming = some records →
                        ∃ (y' : Int) (m' : Nat),
                          PathRun c f s.pool.slots u.pool.slots r (Tab.get records f) (Tab.get c.path.levels.newTrims f)
                            y' m' ∧
                          p'.clips = min 65535 (p.clips + (m + m' + clips + filterClips)) ∧
                          (quiet → p'.output = BitVec.ofInt 24
                            (((y * (480 - n) + y' * n) * factors.prod).tdiv (480 ^ (factors.length + 1))))))) ∧
      u.pool.free = s.pool.free ∧ (∀ k, (Tab.get u.pool.slots k).coef = (Tab.get s.pool.slots k).coef) ∧
      u.houseTime = s.houseTime ∧ u.scanner = s.scanner ∧ u.calibration = s.calibration ∧ u.lines = s.lines ∧
      u.loop = s.loop ∧ u.safety = s.safety ∧ u.ports = s.ports ∧ u.completions = s.completions ∧ u.store = s.store)

/-- R50: the output stage never gives more than the size of its larger input, gives its input where every factor is 480, and 0
where a gate is CLOSED. -/
def Obligations.OutputStageNeverExceedsItsInput : Prop :=
  ∀ (c : Screen) (dead : Gate) (n : Nat) (y : Int), n ≤ 480 →
    let factors := outputFactors c dead n
    (outputStage factors n y none).natAbs ≤ y.natAbs ∧
      (∀ y' : Int, (outputStage factors n y (some y')).natAbs ≤ max y.natAbs y'.natAbs) ∧
      ((∀ k ∈ factors, k = 480) → outputStage factors n y none = y) ∧
      (dead = .closed ∨ c.path.screenGate = .closed ∨ c.path.evacuationGate = .closed ∨
          c.path.calibrationGate = .closed →
        outputStage factors n y none = 0 ∧ ∀ y', outputStage factors n y (some y') = 0)

/-- R41, R42: the gain table holds the correctly rounded 1,048,576 × 10^(L/200), 0 at −960; no product but that of L = 0 could
meet a tie, the table is non-decreasing, and equal neighbours occur; levels beyond its ends take the gain of the end. -/
def Obligations.GainTableIsExact : Prop :=
  (∀ L : Int, -959 ≤ L → L ≤ 120 →
    ((gain L : Nat) : Int) = ⌊(1048576 : ℝ) * (10 : ℝ) ^ ((L : ℝ) / 200) + 1 / 2⌋) ∧
  gain (-960) = 0 ∧
  (∀ (L n : Int), -959 ≤ L → L ≤ 120 → L ≠ 0 → (1048576 : ℝ) * (10 : ℝ) ^ ((L : ℝ) / 200) ≠ (n : ℝ) + 1 / 2) ∧
  (∀ a b : Int, a ≤ b → gain a ≤ gain b) ∧ (∃ L : Int, -959 ≤ L ∧ L < -900 ∧ gain L = gain (L + 1)) ∧
  (∀ x ∈ [((120 : Int), 4174456), (0, 1048576), (-30, 742335), (-60, 525533), (-179, 133536), (-180, 132008),
    (-200, 104858), (-400, 10486), (-600, 1049), (-800, 105), (-905, 31), (-959, 17)], gain x.1 = x.2) ∧
  (∀ L : Int, 120 < L → gain L = 4174456) ∧ ∀ L : Int, L ≤ -960 → gain L = 0

/-- R55, R56: the reports of a block are the largest levels of −960 to 0 whose peak threshold 8 × G, or whose power threshold
G² / 1024, the peak or the mean reaches. -/
def Obligations.ReportsAreTheLargestLevels : Prop :=
  (∀ p : Nat, -960 ≤ peakReport p ∧ peakReport p ≤ 0 ∧ 8 * gain (peakReport p) ≤ p ∧
    ∀ T : Int, -960 ≤ T → T ≤ 0 → 8 * gain T ≤ p → T ≤ peakReport p) ∧
  powerReport 0 = -960 ∧
  ∀ m : Nat, 0 < m → -904 ≤ powerReport m ∧ powerReport m ≤ 0 ∧ gain (powerReport m) ^ 2 / 1024 ≤ m ∧
    ∀ T : Int, -960 ≤ T → T ≤ 0 → gain T ^ 2 / 1024 ≤ m → T ≤ powerReport m

/-! ### Block boundaries -/

/-- R2, R10, R14, R26, R29, R30, R35, R36, R45, R49, R90: at a block boundary that is due the lane moves to its next block, the
renderer goes on with its ramp, its surround filter and its covers by the configuration that is due, each gate moves by whether
its cause stands, the block's level inputs are taken as they stand, and the sample index and the block meters start at 0. At the
first boundary after WAKE the sections of the active and incoming chains have their state at 0 (R77), and those of the active
chains go on unchanged otherwise. A feed that leaves DEAD by a VERIFIED result of the boundary is still DEAD to the renderer and
its gate. A boundary that is not due changes nothing, by the model's choice (log 4); so is that the slots a filter releases
follow on the free list those that the end of a crossfade releases at the same boundary (log 5). -/
def Obligations.GatesMoveAtABoundary : Prop :=
  ∀ (s : State) (i : ScreenId), Running s →
    let after (g : Gate) (cause : Prop) (g' : Gate) : Prop :=
      (cause → g' = match g with
        | .opened => .closing
        | .closing => .closed
        | .closed => .closed
        | .opening => .closing) ∧
      (¬ cause → g' = match g with
        | .opened => .opened
        | .closing => .opening
        | .closed => .opening
        | .opening => .opened)
    (boundaryDue (s.screen i) = false → exec (.blockBoundary i) s = .next s) ∧
    (boundaryDue (s.screen i) = true → ∃ t, exec (.blockBoundary i) s = .next t ∧
      (let c := s.screen i
       let c' := t.screen i
       let r := c.renderer
       let r' := c'.renderer
       let l := c.lane
       let l' := c'.lane
       let inStream : Prop := l'.stream = .locked ∨ l'.stream = .holdover
       let dead (f : FeedId) : Prop :=
        (Tab.get c.feeds f).dead = true ∨ (Tab.get c.feeds f).revived = true ∨ (Tab.get c'.feeds f).dead = true
       let alive (f : FeedId) : Prop := ¬ dead f ∧
        ∀ q rest x, s.calibration = q :: rest → q.tone = some x → q.screen = i → x.feed = f →
          (Tab.get c.feeds f).toneInBlock = true
       let covered (g f : FeedId) : Prop := Tab.get c.settings.cover f = some g ∧ dead f ∧ alive g
       let uncovered (g f : FeedId) : Prop := Tab.get c.settings.cover f = some g → alive f ∨ dead g
       let carries (v : Cover) (now : Option FeedId) (v' : Cover) : Prop :=
        (v.steady.or v.joining = now → v' = { steady := now, joining := none, leaving := none }) ∧
          (v.steady.or v.joining ≠ now → v' = { steady := none, joining := now, leaving := v.steady.or v.joining })
       l' = { l with
          format := l.rendering.change.getD l.format
          rendering := (match l.alignIn with
            | some (_ + 1) => .free
            | _ => l.receiving)
          receiving := (match l.alignIn with
            | some (_ + 1) => l.receiving
            | _ => .free)
          alignIn := (match l.alignIn with
            | some (k + 1) => some (k + 1)
            | _ => none) } ∧
        (r.ramp = .rampOut → r'.ramp = .rampIn ∧ DueFor c (l'.rendering.report.isSome = true) l'.format r'.current) ∧
        (r.ramp ≠ .rampOut → r'.current = r.current ∧ r'.filter = r.filter ∧
          ∀ k, DueFor c inStream (l'.rendering.change.getD l'.format) k →
            (k = r.current → r'.ramp = .steady) ∧ (k ≠ r.current → r'.ramp = .rampOut)) ∧
        (r.ramp = .rampOut → r'.current.format = .program 2 →
          (r.filter ≠ .notHeld → r'.filter = r.filter) ∧
          (r.filter = .notHeld → c.equaliser.switch = .none → c.equaliser.pending = none →
            let coef : Coefficients := ⟨BitVec.ofInt 24 526210, BitVec.ofInt 24 1052420, BitVec.ofInt 24 526210,
              BitVec.ofInt 24 (-3267822), BitVec.ofInt 24 1178358⟩
            (s.pool.free.length < claimedCount s + 2 → r'.filter = .short ∧ t.pool.free = s.pool.free) ∧
            ∀ a b rest, claimedCount s + 2 ≤ s.pool.free.length → s.pool.free = a :: b :: rest →
              r'.filter = .held a b ∧ t.pool.free = rest ∧
                Tab.get t.pool.slots a = ⟨coef, 0#24, 0#24, 0#24, 0#24⟩ ∧
                Tab.get t.pool.slots b = ⟨coef, 0#24, 0#24, 0#24, 0#24⟩)) ∧
        (r.ramp = .rampOut → r'.current.format ≠ .program 2 → r'.filter = .notHeld ∧
          ∀ a b, r.filter = .held a b → ∃ free, t.pool.free = free ++ [a, b]) ∧
        (∀ g : FeedId,
          (∀ f, covered g f → (∀ f', f' < f → uncovered g f') →
            carries (Tab.get r.covers g) (some f) (Tab.get r'.covers g)) ∧
          ((∀ f, uncovered g f) → carries (Tab.get r.covers g) none (Tab.get r'.covers g))) ∧
        after c.path.screenGate (c'.control.state = .dark) c'.path.screenGate ∧
        after c.path.evacuationGate (c'.control.evacuationMute = true) c'.path.evacuationGate ∧
        after c.path.calibrationGate (∃ q rest, t.calibration = q :: rest ∧ q.screen = i ∧ q.tone.isSome = true)
          c'.path.calibrationGate ∧
        (∀ f,
          (dead f → after (Tab.get c.path.feeds f).deadGate True (Tab.get c'.path.feeds f).deadGate) ∧
          (alive f → after (Tab.get c.path.feeds f).deadGate False (Tab.get c'.path.feeds f).deadGate) ∧
          (Tab.get c'.feeds f).revived = false ∧
          (Tab.get c'.path.feeds f).peak = 0 ∧ (Tab.get c'.path.feeds f).energy = 0 ∧
          (Tab.get c'.path.feeds f).clips = 0 ∧
          (Tab.get c'.path.feeds f).memory = (Tab.get c.path.feeds f).memory ∧
          Tab.get c'.path.levels.trims f = (Tab.get c'.equaliser.running f).trim ∧
          Tab.get c'.path.levels.hot f = (Tab.get c'.feeds f).hot) ∧
        (c.equaliser.zeroDue = true → c'.equaliser.zeroDue = false ∧
          ∀ k, k ∈ recordSlots c'.equaliser.running ∨ (∃ v, c'.equaliser.incoming = some v ∧ k ∈ recordSlots v) →
            Tab.get t.pool.slots k = ⟨(Tab.get t.pool.slots k).coef, 0#24, 0#24, 0#24, 0#24⟩) ∧
        (SlotsPartitioned s → c.equaliser.switch = .none → c.equaliser.pending = none →
          ∀ k ∈ recordSlots c.equaliser.running, (Tab.get t.pool.slots k).coef = (Tab.get s.pool.slots k).coef ∧
            (c.equaliser.zeroDue = false → Tab.get t.pool.slots k = Tab.get s.pool.slots k)) ∧
        c'.path.index = 0 ∧ c'.path.taken = [] ∧ c'.path.levels.fader = c'.control.fader ∧
        c'.path.levels.ceiling = c'.governor.ceiling ∧
        c'.path.levels.offset = (if c'.lane.rendering.report.isSome then c'.lane.rendering.offset else 0) ∧
        c'.settings = c.settings) ∧
      t.store = s.store ∧ t.safety = s.safety ∧ t.houseTime = s.houseTime)

/-- R57, R135, R145: a fade moves the fader block by block between its start and its target, and ends with the target; a pulse
ends at a boundary of its screen; the free-run limit freezes the clock, and ends the show where auto-end is set, as a step of
its own or within the block boundary, which then makes no evaluation. R134, R136 to R142: at a boundary of a screen in SHOW the
clock goes as the tables of R134 and R135 list, and the evaluation that they name is made, with its effects on the fader, the
source, the lock, the lines, the pending preset, the orders and the outcomes, those of cues that are not due standing but for
what the pool reports; a suspended screen makes none, and after a suspension a chase from the suspension position takes its
place. That each acts once at a due boundary is the model's choice (log 4), and so is the order in which one boundary's
controllers act: where auto-end ends the show the fader keeps the value from before its move and the governor makes no step when
FREE_RUN_LIMIT is a step of its own, and the cues find the fader moved, the pulses counted and the pool's decision made (log 5).
That a full queue is judged before the station is the model's choice too (log 14), as are an order that still counts among the
32 at the instant of its taking (log 25), the serial numbers that tell takings apart (log 11) and the opening return of a line
that has another owner by then (log 24). -/
def Obligations.FadesPulsesAndFreeRunsEnd : Prop :=
  ∀ s : State, Running s →
    (∀ (i : ScreenId) (a b : Int) (d k : Nat), BoundaryOpen s i .fade → (s.control i).move = .fade a b d k →
      (d ≤ k + 1 → exec (.fadeEnd i) s = .next (s.modScreen i fun c =>
        { c with
          control := { c.control with fader := b, move := .hold }
          path := { c.path with taken := .fade :: c.path.taken } })) ∧
      (k + 1 < d → ∃ t, exec (.blockBoundary i) s = .next t ∧
        (t.control i).fader = a + ((b - a) * (k + 1)).tdiv d ∧
        min a b ≤ (t.control i).fader ∧ (t.control i).fader ≤ max a b)) ∧
    (∀ (i : ScreenId) (l : LineId), (s.line l).pulseScreen = some i → BoundaryOpen s i (.pulse l) →
      (s.line l).pulse ≤ 1 →
      exec (.pulseEnd l) s =
        .next ({ s with lines := Tab.set s.lines l { s.line l with pulse := 0, pulseScreen := none } }.modPath i
          fun p => { p with taken := .pulse l :: p.taken })) ∧
    (∀ (i : ScreenId) (q n : Nat), BoundaryOpen s i .freeRun → (s.control i).state = .inShow →
      (s.control i).clock = .freeRun q n → (s.screen i).settings.freeRunLimit ≤ n →
      (s.screen i).lane.alignIn = none → (s.screen i).lane.receiving.report = none →
      ((s.screen i).settings.autoEnd = false →
        exec (.freeRunLimit i) s = .next (s.modScreen i fun c =>
          { c with
            control := { c.control with clock := .frozen q }
            path := { c.path with taken := .freeRun :: c.path.taken } })) ∧
      ((s.screen i).settings.autoEnd = true →
        ∃ u, exec (.freeRunLimit i) s = .next u ∧ (u.control i).state = .idle ∧ (u.control i).clock = .none ∧
          (u.control i).lock = false ∧ (u.control i).opening = none ∧ (u.screen i).governor = .reset ∧
          (u.control i).cues = (s.control i).cues ∧ SameOthers i s u)) ∧
    (∀ (i : ScreenId) (q n : Nat), boundaryDue (s.screen i) = true → (s.control i).state = .inShow →
      (s.control i).sleepHeld = false → (s.control i).clock = .freeRun q n → handedNext (s.screen i).lane = none →
      (s.screen i).settings.freeRunLimit ≤ n → (s.screen i).settings.autoEnd = true →
      ∃ t, exec (.blockBoundary i) s = .next t ∧ (t.control i).state = .idle ∧ (t.control i).clock = .none ∧
        (t.control i).lock = false ∧ (t.control i).opening = none ∧ (t.control i).suspension = none ∧
        (t.control i).resumeFrom = none ∧ (t.screen i).governor = .reset ∧
        (t.control i).fader = (if SubStep.fade ∈ (s.screen i).path.taken then (s.control i).fader
          else (faderNext (s.control i).fader (s.control i).move).1) ∧
        (t.control i).move = (match steppedMove s i with
          | .fade _ _ _ _ => .hold
          | m => m) ∧
        CuesStand s t i ∧ (t.control i).lastEvaluated = (s.control i).lastEvaluated ∧
        (t.screen i).renderer.selected = (s.screen i).renderer.selected ∧
        ((s.equaliser i).pending = none → (t.equaliser i).pending = none) ∧
        (∀ l, (t.line l).flag = (s.line l).flag ∧ PulseCounted s i l (t.line l)) ∧ t.loop = (arbitrate s).loop) ∧
    ∀ (i : ScreenId) (clock' : ShowClock) (e : Evaluation), boundaryDue (s.screen i) = true →
      (s.control i).state = .inShow → (s.control i).sleepHeld = false →
      (∀ q ∈ (s.control i).cues, ∀ address code argument, q.action = .order address code argument →
        1 ≤ address ∧ address ≤ 15) →
      ClockRow (s.screen i).settings.freeRunLimit (s.control i).clock (handedNext (s.screen i).lane) clock' e →
      ((s.screen i).settings.autoEnd = true → ∀ q n, (s.control i).clock = .freeRun q n →
        handedNext (s.screen i).lane = none → n < (s.screen i).settings.freeRunLimit) →
      ∃ t, exec (.blockBoundary i) s = .next t ∧ (t.control i).state = .inShow ∧ (t.control i).clock = clock' ∧
        (∀ at_, (s.control i).suspension = some at_ →
          NothingTaken i s t ∧ (t.control i).resumeFrom = (s.control i).resumeFrom) ∧
        ((s.control i).suspension = none →
          ((s.control i).resumeFrom = none → EvaluationMade i e s t) ∧
          ∀ from_, (s.control i).resumeFrom = some from_ →
            (clock'.position = none → NothingTaken i s t ∧ (t.control i).resumeFrom = some from_) ∧
            ∀ n, clock'.position = some n → (t.control i).resumeFrom = none ∧
              EvaluationMade i (match from_ with
                | some o => .chase o n
                | none => .start n) s t)

/-- R95, R96, R97: every block of a screen in SHOW adds its block power to the segment and 1 to its count, and the hundredth
completes it, as a step of its own or, where that was not given, within the block boundary: its sum takes the oldest place of
the ring, W is the sum of the ring, and the ceiling falls by 5, rises by 5 or stays by the thresholds of the exposure limit,
within −100 to 0; GOVERNING starts or ends with it. That it acts once at a due boundary, given as a step of its own or not, is
the model's choice (log 4). -/
def Obligations.SegmentMovesTheCeiling : Prop :=
  ∀ (s : State) (i : ScreenId), Running s → boundaryDue (s.screen i) = true → (s.control i).state = .inShow →
    let c := s.screen i
    let g := c.governor
    let power := (((List.finRange 16).filter fun f => c.settings.exposureMask.getLsbD f.val).map fun f =>
      (Tab.get c.path.feeds f).energy / 480).sum
    let ring := Tab.set g.ring g.oldest (g.segmentSum + power)
    let w := (Tab.list ring).sum
    let ceiling : Int :=
      if 6000 * (gain c.settings.exposureLimit ^ 2 / 1024) ≤ w then max (g.ceiling - 5) (-100)
      else if w < 6000 * (gain (c.settings.exposureLimit - 10) ^ 2 / 1024) then min (g.ceiling + 5) 0
      else g.ceiling
    let completed : Governor := ⟨0, 0, ring, g.oldest + 1, w, ceiling, min 60 (g.completed + 1)⟩
    (.segment ∉ c.path.taken → g.blockCount = 99 → ∃ u, exec (.segmentCompletion i) s = .next u ∧
      (u.screen i).governor = completed ∧
      u.alarms = (if g.ceiling < 0 ∧ 0 ≤ ceiling then s.alarms.finish s.houseTime .governing (.screen i)
        else if 0 ≤ g.ceiling ∧ ceiling < 0 then s.alarms.start s.houseTime .governing (.screen i)
        else s.alarms) ∧
      (u.screen i).path = { c.path with taken := .segment :: c.path.taken } ∧
      u.screen i = { c with governor := (u.screen i).governor, path := (u.screen i).path } ∧ SameOthers i s u ∧
      SameDevice { s with alarms := u.alarms } u) ∧
    ((s.control i).sleepHeld = false →
      (c.settings.autoEnd = true → ∀ q n, (s.control i).clock = .freeRun q n → handedNext c.lane = none →
        n < c.settings.freeRunLimit) →
      ∃ t, exec (.blockBoundary i) s = .next t ∧
        (.segment ∈ c.path.taken → (t.screen i).governor = g) ∧
        (.segment ∉ c.path.taken → g.blockCount = 99 → (t.screen i).governor = completed) ∧
        (.segment ∉ c.path.taken → g.blockCount < 99 →
          (t.screen i).governor = { g with blockCount := g.blockCount + 1, segmentSum := g.segmentSum + power }) ∧
        ∃ xs, t.alarms = reportsTaken s.houseTime xs s.alarms ∧
          xs.filter (fun x => x.1 == .governing) =
            reportOf .governing (.screen i) (decide (g.ceiling < 0)) (decide ((t.screen i).governor.ceiling < 0)))

/-- R60, R61, R65 to R72, R76: a boundary that finds a request in the pending place, and no switch or one that ends there,
decides it over the slots that the end leaves: a crossfade where the preset fits the available slots, which takes them from the
head of the free list; else a cut, with its claim, where it fits them together with the slots of the active chains; else a
failure, told to its owner and as POOL_SHORT. A crossfade's end releases the old chains and runs the incoming records; a cut's
exchange releases the old slots, takes those of the preset from the head of the free list with the bank's coefficients, trims
and delays, and drops the claim; a cut's end leaves no switch. At the end, with a request pending or none, the entry of the
command is DONE and a held SLEEP takes effect. A cue whose request is decided is told DONE or FAILED_POOL (R141, R143), in SHOW
too where the boundary makes no chase; its outcome at every evaluation, a chase among them, is stated with the evaluations. Each
is made as a step of its own or, where that was not given, within the block boundary. POOL_SHORT's start and end are reported
(R98). That each acts once at a due boundary is the model's choice (log 4), and so are that the pool decides before the renderer
requests or releases slots at the same boundary, that the end of a switch as a step of its own acts before level watch (log 5),
and that a deferred PRESET0 is written even where a COMMISSION came between (log 19). -/
def Obligations.SwitchesEnd : Prop :=
  ∀ (s : State) (i : ScreenId), Running s → CompletionsSound s → BoundaryOpen s i .switchProgress →
    let e := s.equaliser i
    let old := recordSlots e.running
    let steady : Prop := (s.screen i).renderer.ramp ≠ .rampOut
    let hears : Prop := CuesStayTaken s i
    let within (u : State) (r : Request) (code : Byte) : Prop :=
      (u.equaliser i).bank = e.bank ∧ ((∀ q ∈ s.calibration, r.origin ≠ .command q.ticket) → SwitchTold s u i r code) ∧
        ((s.control i).sleepHeld = true → (u.control i).state = .dark) ∧ (u.control i).sleepHeld = false
    let ended (u : State) (r : Request) (code : Byte) : Prop :=
      ((u.equaliser i).bank = e.bank ∧ SwitchTold s u i r code ∧
        (u.control i).state = (if (s.control i).sleepHeld then .dark else (s.control i).state) ∧
        (u.control i).sleepHeld = false ∧
        (u.screen i).path = { (s.screen i).path with taken := .switchProgress :: (s.screen i).path.taken } ∧
        ((∀ q ref, e.pending = some q → q.origin = .cue ref → ref.screen = i) → SameOthers i s u) ∧ u.loop = s.loop ∧
        u.lines = s.lines ∧ u.ports = s.ports)
    (∀ r v, e.switch = .crossfade r → e.incoming = some v →
      (e.pending = none →
        ∃ u, exec (.crossfadeEnd i) s = .next u ∧ ended u r 0#8 ∧ (u.equaliser i).switch = .none ∧
          (u.equaliser i).running = v ∧ (u.equaliser i).incoming = none ∧ (u.equaliser i).active = r.preset ∧
          u.pool = { s.pool with free := s.pool.free ++ old } ∧ u.alarms = s.alarms ∧
          ∃ t, exec (.blockBoundary i) s = .next t ∧ within t r 0#8 ∧ (t.equaliser i).switch = .none ∧
            (t.equaliser i).running = v ∧ (t.equaliser i).incoming = none ∧ (t.equaliser i).active = r.preset ∧
            (steady → t.pool.free = s.pool.free ++ old)) ∧
      ∀ q, e.pending = some q → (s.pool.free ++ old).Nodup →
        ∃ u, exec (.crossfadeEnd i) s = .next u ∧ ended u r 0#8 ∧
          Decided s u i q v r.preset (s.pool.free ++ old) True True ∧ (u.equaliser i).pending = none ∧
          ∃ t, exec (.blockBoundary i) s = .next t ∧ within t r 0#8 ∧
            Decided s t i q v r.preset (s.pool.free ++ old) hears steady) ∧
    (∀ r, e.switch = .cutIn r →
      (e.pending = none →
        ∃ u, exec (.cutEnd i) s = .next u ∧ ended u r 1#8 ∧ u.equaliser i = { e with switch := .none } ∧
          u.pool = s.pool ∧ u.alarms = s.alarms ∧
          ∃ t, exec (.blockBoundary i) s = .next t ∧ within t r 1#8 ∧ (t.equaliser i).switch = .none ∧
            (t.equaliser i).running = e.running ∧ (t.equaliser i).incoming = e.incoming ∧
            (t.equaliser i).active = e.active ∧ (steady → t.pool.free = s.pool.free)) ∧
      ∀ q, e.pending = some q → s.pool.free.Nodup →
        ∃ u, exec (.cutEnd i) s = .next u ∧ ended u r 1#8 ∧ Decided s u i q e.running e.active s.pool.free True True ∧
          (u.equaliser i).pending = none ∧
          ∃ t, exec (.blockBoundary i) s = .next t ∧ within t r 1#8 ∧
            Decided s t i q e.running e.active s.pool.free hears steady) ∧
    (∀ r claim, e.switch = .cutOut r claim →
      totalSections (Tab.get e.bank r.preset) ≤ s.pool.free.length + old.length →
      (s.pool.free ++ old).Nodup →
      let exchanged (u : State) : Prop :=
        (let e' := u.equaliser i
         e'.switch = .cutIn r ∧ e'.active = r.preset ∧ e'.incoming = e.incoming ∧
          Copied e r.preset u.pool.slots e'.running ∧ e'.deferred = none ∧
          (e.deferred = none ∨ (s.control i).lock = true → e'.bank = e.bank ∧ e'.commissioned = e.commissioned) ∧
          ∀ d, e.deferred = some d → (s.control i).lock = false → e'.bank = Tab.set e.bank d.preset d.content)
      let given (u : State) : Prop := recordSlots (u.equaliser i).running ++ u.pool.free = s.pool.free ++ old
      (∃ u, exec (.cutExchange i) s = .next u ∧ exchanged u ∧ given u ∧ (u.equaliser i).pending = e.pending ∧
        u.completions = s.completions ∧ u.alarms = s.alarms ∧ SameOthers i s u ∧ u.control i = s.control i ∧
        u.loop = s.loop ∧ u.ports = s.ports) ∧
      ∃ t, exec (.blockBoundary i) s = .next t ∧ exchanged t ∧ (steady → given t)) ∧
    ∀ r, e.switch = .none → e.pending = some r → s.pool.free.Nodup →
      ∃ t, exec (.blockBoundary i) s = .next t ∧
        Decided s t i r e.running e.active s.pool.free hears steady ∧
        (totalSections (Tab.get e.bank r.preset) > s.pool.free.length - claimedCount s →
          (t.equaliser i).incoming = e.incoming)

/-- R90, R109, R110, R111, R114, R115, R116: the tenth block of a step decides its outcome from the largest reading S: above
3,968 OVERRANGE, from 64 on VERIFIED at the step's level with S, below 64 the next step, or a failed feed after step 10. The
feed's record takes it; a feed that leaves DEAD by it is taken as ACTIVE from the next boundary on. The sweep skips the feeds
that are not sense-fitted and goes on with the next one that is, or is complete after the last; then the next request of the
same screen starts at the same boundary, and one of another screen waits for its own. A waiting request at the head starts at a
boundary of its screen, the boundaries before the tenth count the blocks of a step, and a block boundary ends a step where no
step of its own did. That it acts once at a due boundary is the model's choice (log 4), and so are that the successor takes
its feed within the step and that a step of its own reports the ends of DEAD and HOT ahead of level watch (log 5). -/
def Obligations.CalibrationStepsEnd : Prop :=
  ∀ (s : State) (r : CalRequest) (behind : List CalRequest), Running s → s.calibration = r :: behind →
    let i := r.screen
    let noted (u : State) : Prop := (u.screen i).path =
      { (s.screen i).path with taken := .calibration :: (s.screen i).path.taken }
    let fitted (f : FeedId) : Prop := (s.screen i).settings.senseFitted.getLsbD f.val = true
    let withBits (m : BitVec 16) (fs : List FeedId) : BitVec 16 := fs.foldl (fun m f => m ||| BitVec.ofNat 16 (2 ^ f.val)) m
    let started (q : CalRequest) (q' : CalRequest) : Prop :=
      ∃ past f rest, q.left = past ++ f :: rest ∧ (∀ g ∈ past, ¬ fitted g) ∧ fitted f ∧
        q' = { q with left := rest, tone := some ⟨f, 1, 1, 0⟩, skipped := withBits q.skipped past }
    let ended (q : CalRequest) : CalRequest := { q with left := [], tone := none, skipped := withBits q.skipped q.left }
    let apart (ticket : Nat) : Prop := ∀ n c,
      let q : Request := ⟨n, .command ticket⟩
      (s.equaliser i).pending ≠ some q ∧ (s.equaliser i).switch ≠ .crossfade q ∧ (s.equaliser i).switch ≠ .cutOut q c ∧
        (s.equaliser i).switch ≠ .cutIn q
    let goesOn (u : State) (q : CalRequest) : Prop :=
      ((∃ f ∈ q.left, fitted f) → ∃ q', started q q' ∧ u.calibration = q' :: behind) ∧
      ((∀ f ∈ q.left, ¬ fitted f) → RunningEntry s r.ticket →
        (∃ x ∈ u.completions.entries, x.ticket = r.ticket ∧
          x.done = some ⟨.normal, .ok, (ended q).payload none, s.completions.nextOrder⟩) ∧
        (behind = [] → u.calibration = []) ∧
        ∀ q₂ rest, behind = q₂ :: rest →
          (q₂.screen ≠ i ∨ q₂.tone.isSome = true → u.calibration = behind) ∧
          (q₂.screen = i → q₂.tone = none → (∃ f ∈ q₂.left, fitted f) →
            ∃ q', started q₂ q' ∧ u.calibration = q' :: rest) ∧
          (q₂.screen = i → q₂.tone = none → (∀ f ∈ q₂.left, ¬ fitted f) → q₂.ticket ≠ r.ticket →
            RunningEntry s q₂.ticket →
            (∃ x ∈ u.completions.entries, x.ticket = q₂.ticket ∧
              x.done = some ⟨.normal, .ok, (ended q₂).payload none, s.completions.nextOrder + 1⟩) ∧
            (rest = [] → u.calibration = [])))
    (∀ t : Tone, r.tone = some t → t.block = 10 → BoundaryOpen s i .calibration →
      let again (u : State) : Prop := u.calibration = { r with tone := some ⟨t.feed, t.step + 1, 1, 0⟩ } :: behind
      let verified (u : State) : Prop :=
        let q := Tab.get (u.screen i).feeds t.feed
        q.calibration = some (-660 + 60 * (t.step : Int), t.reading) ∧ q.dead = false ∧ q.deadCount = 0 ∧
          q.hot = false ∧ q.hotCount = 0 ∧ q.coolCount = 0 ∧
          goesOn u { r with verified := r.verified ++ [(t.feed, -660 + 60 * (t.step : Int), t.reading)] }
      let rejected (u : State) : Prop :=
        let q := Tab.get (u.screen i).feeds t.feed
        let bit : BitVec 16 := BitVec.ofNat 16 (2 ^ t.feed.val)
        q.calibration = none ∧ q.hot = false ∧ q.deadCount = 0 ∧ q.hotCount = 0 ∧ q.coolCount = 0 ∧
          if 3968 < t.reading then goesOn u { r with overrange := r.overrange ||| bit }
          else goesOn u { r with failed := r.failed ||| bit }
      let q₀ := Tab.get (s.screen i).feeds t.feed
      let kept (u : State) : Prop :=
        noted u ∧ SameOthers i s u ∧ ((∃ f ∈ r.left, fitted f) → u.completions = s.completions)
      (t.reading < 64 → t.step < 10 →
        exec .calibrationStepEnd s = .next ((s.withCalibration
          ({ r with tone := some ⟨t.feed, t.step + 1, 1, 0⟩ } :: behind)).modPath i
            fun p => { p with taken := .calibration :: p.taken })) ∧
      (64 ≤ t.reading → t.reading ≤ 3968 → ∃ u, exec .calibrationStepEnd s = .next u ∧ verified u ∧ kept u ∧
        (Tab.get (u.screen i).feeds t.feed).revived = (q₀.dead || q₀.revived)) ∧
      (3968 < t.reading ∨ (t.reading < 64 ∧ 10 ≤ t.step) →
        ∃ u, exec .calibrationStepEnd s = .next u ∧ rejected u ∧ kept u ∧
          (Tab.get (u.screen i).feeds t.feed).dead = q₀.dead) ∧
      (SweepsStay s i → (∀ q ∈ s.calibration, apart q.ticket) → ∃ v, exec (.blockBoundary i) s = .next v ∧
        (t.reading < 64 → t.step < 10 → again v) ∧
        (64 ≤ t.reading → t.reading ≤ 3968 → verified v) ∧
        (3968 < t.reading ∨ (t.reading < 64 ∧ 10 ≤ t.step) → rejected v))) ∧
    (∀ t : Tone, r.tone = some t → t.block < 10 → BoundaryOpen s i .calibration → SweepsStay s i →
      ∃ v, exec (.blockBoundary i) s = .next v ∧
        v.calibration = { r with tone := some { t with block := t.block + 1 } } :: behind) ∧
    (r.tone = none → boundaryDue (s.screen i) = true → SweepsStay s i → ∃ v, exec (.blockBoundary i) s = .next v ∧
      ((∃ f ∈ r.left, fitted f) → ∃ r', started r r' ∧ v.calibration = r' :: behind) ∧
      ((∀ f ∈ r.left, ¬ fitted f) → RunningEntry s r.ticket → apart r.ticket →
        (∃ x ∈ v.completions.entries, x.ticket = r.ticket ∧ ∃ d, x.done = some d ∧ d.termination = .normal ∧
          d.reason = .ok ∧ d.payload = (ended r).payload none) ∧ (behind = [] → v.calibration = []))) ∧
    ∀ j, j ≠ i → boundaryDue (s.screen j) = true → SweepsStay s j →
      ∃ v, exec (.blockBoundary j) s = .next v ∧ v.calibration = s.calibration

/-! ### Sense slots and the safety input -/

/-- R84, R85, R86, R87, R113: each conversion slot converts the next line of the rotation, whose reading counts for block sense
except for the first after it joined; while a tone stands the even slots convert the calibrating line, whose readings of blocks
6 to 10 count for the step. House time moves with every 80th slot (log 3). That a reading of the calibrating line is not its
first after joining the rotation is the model's choice (log 23). -/
def Obligations.SenseSlotsRotate : Prop :=
  ∀ (s : State) (v : BitVec 12), Running s →
    let slot := s.scanner.slot + 1
    let time := if slot % 80 = 0 then s.houseTime + 1 else s.houseTime
    let converted (open_ : SenseLine → Prop) : Prop :=
      ((∀ n, ¬ open_ n) →
        exec (.senseConversionSlot v) s =
          .next { s with scanner := { s.scanner with slot := slot }, houseTime := time }) ∧
      ∀ n, NextLine s.scanner.pointer open_ n →
        exec (.senseConversionSlot v) s = .next
          { s.modFeed (lineFeed n).1 (lineFeed n).2 (fun r =>
              { r with
                latest := some v.toNat
                firstDue := false
                blockSense := if r.firstDue then r.blockSense else some (max v.toNat (r.blockSense.getD 0)) }) with
            scanner := ⟨slot, some n⟩
            houseTime := time }
    ((∀ r rest, s.calibration = r :: rest → r.tone = none) → converted (InRotation s)) ∧
    ∀ r rest t, s.calibration = r :: rest → r.tone = some t →
      (s.scanner.slot % 2 = 1 →
        converted fun n => InRotation s n ∧ lineFeed n ≠ (r.screen, t.feed)) ∧
      (s.scanner.slot % 2 = 0 →
        exec (.senseConversionSlot v) s = .next
          { (s.modFeed r.screen t.feed (fun q => { q with latest := some v.toNat })).withCalibration
              ({ r with tone := some { t with
                reading := if 6 ≤ t.block then max v.toNat t.reading else t.reading } } :: rest) with
            scanner := { s.scanner with slot := slot }
            houseTime := time })

/-- R166, R167, R117, R120, R139, R155, R169: the safety input is recognised at the second equal sample that differs from its
state. Asserted, it mutes every screen, suspends those in SHOW at their clock's position, ends every calibration request,
their RUNNING entries DONE as ABRUPT with EVACUATION in queue order, raises EVACUATION and hands the transmitter the
evacuation order; released, it ends EVACUATION and leaves mutes and suspensions. That an assertion drops a chase still due is
the model's choice (log 17). -/
def Obligations.SafetyInputIsRecognised : Prop :=
  ∀ (s : State) (level : Bool), Running s →
    (level = s.safety.asserted ∨ s.safety.previous ≠ some level →
      exec (.safetyInputSample level) s = .next { s with safety := ⟨s.safety.asserted, some level⟩ }) ∧
    (level = false → s.safety.asserted = true → s.safety.previous = some false →
      exec (.safetyInputSample false) s = .next { s with
        safety := ⟨false, some false⟩, alarms := s.alarms.finish s.houseTime .evacuation .device }) ∧
    (level = true → s.safety.asserted = false → s.safety.previous = some true →
      ∃ u, exec (.safetyInputSample true) s = .next (arbitrate u) ∧ u.safety = ⟨true, some true⟩ ∧
        (∀ i, u.screen i = { s.screen i with control := { s.control i with
          evacuationMute := true
          suspension := if (s.control i).state = .inShow ∧ (s.control i).suspension = none
            then some (s.control i).clock.position else (s.control i).suspension
          resumeFrom := if (s.control i).state = .inShow ∧ (s.control i).suspension = none
            then none else (s.control i).resumeFrom } }) ∧
        u.calibration = [] ∧
        (∀ r ∈ s.calibration, ∀ e ∈ u.completions.entries, e.ticket = r.ticket → e.done.isSome = true) ∧
        (∀ e ∈ s.completions.entries, e.done = none → (∃ r ∈ s.calibration, r.ticket = e.ticket) →
          ∃ d, { e with done := some d } ∈ u.completions.entries ∧ d.termination = .abrupt ∧ d.reason = .evacuation) ∧
        (∀ (k : Nat) (r : CalRequest), s.calibration[k]? = some r →
          (∀ (m : Nat) (r' : CalRequest), s.calibration[m]? = some r' → r'.ticket = r.ticket → m = k) →
          ∀ e ∈ s.completions.entries, e.ticket = r.ticket → e.done = none →
            { e with done := some ⟨.abrupt, .evacuation, r.payload (r.tone.map Tone.feed), s.completions.nextOrder + k⟩ } ∈
              u.completions.entries) ∧
        (∀ e ∈ s.completions.entries, (∀ r ∈ s.calibration, r.ticket ≠ e.ticket) → e ∈ u.completions.entries) ∧
        u.alarms = s.alarms.start s.houseTime .evacuation .device ∧
        u.loop = { s.loop with evacuationSlot :=
          if s.loop.table.evacuation.isSome then s.loop.table.evacuation else s.loop.evacuationSlot } ∧
        u.lines = s.lines ∧ u.ports = s.ports ∧ u.pool = s.pool ∧ u.store = s.store)

/-! ### What every command keeps -/

/-- The rules' bounds hold at reset.  That they hold of State.reset rests on the reset state the model names (log 1). -/
def Obligations.ResetKeepsTheBounds : Prop :=
  CeilingsInRange State.reset ∧ QueueBounded State.reset ∧ CompletionsSound State.reset ∧ AlarmsSound State.reset ∧
    StationsInWindow State.reset ∧ SlotsPartitioned State.reset ∧ CuesInMemory State.reset ∧ BudgetsKept State.reset ∧
    RecallInTarget State.reset

/-- R22, R96, R131, R154, R177: every command keeps the ceilings within −100 to 0, the transmit queue within 32 orders, with an
order whose taking is open to judgement (log 25), the cue lists within 256 records, the render tables within 192 terms and the
stagings within 4,096 bytes; and a RECALL to records of its target. -/
def Obligations.CommandsKeepTheBudgets : Prop :=
  ∀ (c : Instr) (s t : State), exec c s = .next t →
    (CeilingsInRange s → CeilingsInRange t) ∧ (QueueBounded s → QueueBounded t) ∧ (CuesInMemory s → CuesInMemory t) ∧
      (BudgetsKept s → BudgetsKept t) ∧ (RecallInTarget s → RecallInTarget t)

/-- R99, R102, R181: every command keeps the completion table to 8 entries of different tickets within 1 to 255, and the alarm
table to 63 ordinary records, one for each kind and scope, with OVERFLOW apart. -/
def Obligations.CommandsKeepTheTables : Prop :=
  ∀ (c : Instr) (s t : State), exec c s = .next t →
    (CompletionsSound s → CompletionsSound t) ∧ (AlarmsSound s → AlarmsSound t)

/-- R152, R153: every command keeps each station's window of at most 3 outstanding orders with consecutive numbers modulo 8,
nothing outstanding outside UP and BUSY, stations that are not enabled in ABSENT, and no frame due for an ABSENT one. -/
def Obligations.CommandsKeepTheStationsInWindow : Prop :=
  ∀ (c : Instr) (s t : State), exec c s = .next t → StationsInWindow s → StationsInWindow t

/-- R60, R61, R62: every command keeps each of the 384 slots in exactly one place, on the free list, in a chain or in a surround
filter, with incoming chains exactly in a crossfade. -/
def Obligations.CommandsKeepTheSlotsPartitioned : Prop :=
  ∀ (c : Instr) (s t : State), exec c s = .next t → SlotsPartitioned s → SlotsPartitioned t

/-- R130: while a screen's show lock is set no command but power-on and the RESET line changes its render table, its presets,
its cue list or its settings; a cue's taken flag and outcome are the running show's. -/
def Obligations.LockProtectsTheConfiguration : Prop :=
  ∀ (c : Instr) (s t : State) (i : ScreenId), Running s → RecallInTarget s → (s.control i).lock = true →
    c ≠ .powerOn → c ≠ .resetLine → exec c s = .next t →
    (t.screen i).renderer.table = (s.screen i).renderer.table ∧ (t.equaliser i).bank = (s.equaliser i).bank ∧
      cueContent (t.control i).cues = cueContent (s.control i).cues ∧ (t.screen i).settings = (s.screen i).settings

/-- R134, R136, R137, R139, R168: a boundary of a screen in SHOW, not suspended, leaves taken exactly the enabled cues at or
before its clock's position, in every normal advance, chase and start chase, where that stood before it and the lane's report
follows the clock. A suspended screen's boundary leaves every cue as it stands; and where the flags stand as the suspension
position left them, the first boundary after it at which the clock has a position takes the cues up to that one, and a boundary
before it none. Where the wrap and unlisted reports go follows log 13. -/
def Obligations.CuesAreTakenUpToThePosition : Prop :=
  ∀ (s : State) (i : ScreenId), Running s → boundaryDue (s.screen i) = true → (s.control i).state = .inShow →
    ((s.control i).suspension = none → (s.control i).resumeFrom = none → TakenUpTo (s.control i) →
      (∀ q, (s.control i).clock.position = some q → q < 2 ^ 24 ∧ HandedAfter q (handedNext (s.screen i).lane)) →
      ∃ t, exec (.blockBoundary i) s = .next t ∧ ((t.control i).state = .inShow → TakenUpTo (t.control i))) ∧
    (∀ at_, (s.control i).suspension = some at_ → ∃ t, exec (.blockBoundary i) s = .next t ∧ CuesStand s t i) ∧
    ∀ from_, (s.control i).suspension = none → (s.control i).resumeFrom = some from_ →
      (∀ q ∈ (s.control i).cues, q.enabled = true → (q.taken = true ↔ ∃ o, from_ = some o ∧ q.time ≤ o)) →
      ∃ t, exec (.blockBoundary i) s = .next t ∧ ((t.control i).state = .inShow →
        ((t.control i).clock.position.isSome = true → (t.control i).resumeFrom = none ∧ TakenUpTo (t.control i)) ∧
        ((t.control i).clock.position = none → (t.control i).resumeFrom = some from_ ∧ CuesStand s t i))
end

