-- ==== Sys2Proof/Laws/Fields.lean ====
section
/-! SUPPORT. The numbers that a window's bytes give, and bytes of numbers. -/

namespace Sys2Proof.Machine

-- One declaration after another: the package as one text has hundreds of short proofs.
set_option Elab.async false

@[simp] theorem natOfBytes_one (b : Byte) : natOfBytes [b] = b.toNat := by simp [natOfBytes]

theorem natOfBytes_two (hi lo : Byte) : natOfBytes [hi, lo] = (hi ++ lo : BitVec 16).toNat := by
  have h1 := hi.isLt
  have h2 := lo.isLt
  rw [BitVec.toNat_append, Nat.shiftLeft_eq, Nat.mul_comm, ← Nat.two_pow_add_eq_or_of_lt h2]
  simp only [natOfBytes, List.foldl_cons, List.foldl_nil]
  omega

theorem natOfBytes_three (a b c : Byte) : natOfBytes [a, b, c] = (a ++ b ++ c : BitVec 24).toNat := by
  have h1 := a.isLt
  have h2 := b.isLt
  have h3 := c.isLt
  have h := natOfBytes_two a b
  rw [BitVec.toNat_append, ← h, Nat.shiftLeft_eq, Nat.mul_comm, ← Nat.two_pow_add_eq_or_of_lt h3]
  simp only [natOfBytes, List.foldl_cons, List.foldl_nil]
  omega

theorem intOfBytes_two (hi lo : Byte) : intOfBytes [hi, lo] = (hi ++ lo : BitVec 16).toInt := by
  unfold intOfBytes
  rw [natOfBytes_two, BitVec.toInt_eq_toNat_cond]
  norm_num

/-- A parameter byte that names a screen, a feed, a line … by its number gives it back. -/
@[simp] theorem numbered_param {k : Nat} (i : Fin k) (h : k < 256) : numbered k (numberParam i).toNat = some i := by
  have hi := i.isLt
  have e : (numberParam i).toNat = i.val + 1 := by
    simp only [numberParam, BitVec.toNat_ofNat]
    omega
  simp [numbered, e, hi]

@[simp] theorem natField_zero (b : Byte) (rest : List Byte) : natField (b :: rest) 0 1 = b.toNat := by
  simp [natField, slice]

@[simp] theorem screenField_param (i : ScreenId) (rest : List Byte) :
    screenField (numberParam i :: rest) 0 = some i := by
  rw [screenField, natField_zero]
  exact numbered_param i (by decide)

@[simp] theorem feedField_param (b : Byte) (f : FeedId) (rest : List Byte) :
    feedField (b :: numberParam f :: rest) 1 = some f := by
  have e : natField (b :: numberParam f :: rest) 1 1 = (numberParam f).toNat := by simp [natField, slice]
  rw [feedField, e]
  exact numbered_param f (by decide)

@[simp] theorem bytesOf_length (width n : Nat) : (bytesOf width n).length = width := by
  induction width generalizing n with
  | zero => rfl
  | succ w ih => simp [bytesOf, ih]

/-- A number written in bytes and read back is the number modulo their range. -/
theorem natOfBytes_bytesOf (width n : Nat) : natOfBytes (bytesOf width n) = n % 256 ^ width := by
  induction width generalizing n with
  | zero => simp [bytesOf, natOfBytes, Nat.mod_one]
  | succ w ih =>
    have h : natOfBytes (bytesOf w (n / 256) ++ [BitVec.ofNat 8 n]) = natOfBytes (bytesOf w (n / 256)) * 256 + n % 256 := by
      simp [natOfBytes]
    rw [bytesOf, h, ih, Nat.pow_succ, Nat.mul_comm (256 ^ w) 256, Nat.mod_mul]
    omega

end Sys2Proof.Machine
end

