-- ==== Sys2Proof/Laws/Tab.lean ====
section
/-! SUPPORT. What reading a table gives after each way of making one. -/

namespace Sys2Proof.Tab

-- One declaration after another: the package as one text has hundreds of short proofs.
set_option Elab.async false

variable {α β : Type} {n : Nat}

@[simp] theorem get_set_self (v : Vector α n) (i : Fin n) (a : α) : get (set v i a) i = a := by
  simp [get, set]

theorem get_set_ne (v : Vector α n) {i j : Fin n} (a : α) (h : i ≠ j) : get (set v i a) j = get v j := by
  have h' : i.val ≠ j.val := fun e => h (Fin.ext e)
  simp [get, set, h']

theorem get_set (v : Vector α n) (i j : Fin n) (a : α) : get (set v i a) j = if i = j then a else get v j := by
  by_cases h : i = j
  · subst h; simp
  · simp [get_set_ne v a h, h]

theorem get_modify (v : Vector α n) (i j : Fin n) (f : α → α) :
    get (modify v i f) j = if i = j then f (get v j) else get v j := by
  unfold modify
  rw [get_set]
  split
  · next h => rw [h]
  · rfl

@[simp] theorem get_modify_self (v : Vector α n) (i : Fin n) (f : α → α) : get (modify v i f) i = f (get v i) := by
  simp [get_modify]

theorem get_modify_ne (v : Vector α n) {i j : Fin n} (f : α → α) (h : i ≠ j) : get (modify v i f) j = get v j := by
  simp [get_modify, h]

@[simp] theorem get_build (f : Fin n → α) (i : Fin n) : get (build f) i = f i := by
  simp [get, build]

@[simp] theorem get_mapIdx (f : Fin n → α → β) (v : Vector α n) (i : Fin n) : get (mapIdx f v) i = f i (get v i) := by
  simp [mapIdx]

@[simp] theorem get_map (f : α → β) (v : Vector α n) (i : Fin n) : get (map f v) i = f (get v i) := by
  simp [map]

@[simp] theorem get_all (a : α) (i : Fin n) : get (all a : Vector α n) i = a := by
  simp [get, all]

/-- Two tables with the same entries are equal. -/
theorem ext_get {v w : Vector α n} (h : ∀ i, get v i = get w i) : v = w :=
  Vector.ext fun i hi => h ⟨i, hi⟩

/-- The entries in index order are the entries read one by one. -/
theorem list_eq (v : Vector α n) : list v = (List.finRange n).map (get v) := by
  apply List.ext_getElem
  · simp [list]
  · intro i h1 h2
    simp [list, get]

theorem mem_list {v : Vector α n} {a : α} : a ∈ list v ↔ ∃ i, get v i = a := by
  rw [list_eq]
  simp

/-- Setting an entry to what it is changes nothing. -/
@[simp] theorem set_get (v : Vector α n) (i : Fin n) : set v i (get v i) = v := by
  apply ext_get
  intro j
  rw [get_set]
  split
  · next h => rw [h]
  · rfl

end Sys2Proof.Tab
end

