-- ==== Sys2Proof/Laws/State.lean ====
section
/-! SUPPORT. Each field of the state after each named update, and the views after the updates of a screen, a port, a line and a
station. -/

namespace Sys2Proof.Machine.State

-- One declaration after another: the package as one text has hundreds of short proofs.
set_option Elab.async false

variable (s : State)

@[simp] theorem modScreen_pending (i : ScreenId) (f : Screen → Screen) : (s.modScreen i f).pending = s.pending := rfl
@[simp] theorem modScreen_power (i : ScreenId) (f : Screen → Screen) : (s.modScreen i f).power = s.power := rfl
@[simp] theorem modScreen_straps (i : ScreenId) (f : Screen → Screen) : (s.modScreen i f).straps = s.straps := rfl
@[simp] theorem modScreen_houseTime (i : ScreenId) (f : Screen → Screen) : (s.modScreen i f).houseTime = s.houseTime := rfl
@[simp] theorem modScreen_screens (i : ScreenId) (f : Screen → Screen) : (s.modScreen i f).screens = Tab.modify s.screens i f := rfl
@[simp] theorem modScreen_nonSync (i : ScreenId) (f : Screen → Screen) : (s.modScreen i f).nonSync = s.nonSync := rfl
@[simp] theorem modScreen_pool (i : ScreenId) (f : Screen → Screen) : (s.modScreen i f).pool = s.pool := rfl
@[simp] theorem modScreen_scanner (i : ScreenId) (f : Screen → Screen) : (s.modScreen i f).scanner = s.scanner := rfl
@[simp] theorem modScreen_alarms (i : ScreenId) (f : Screen → Screen) : (s.modScreen i f).alarms = s.alarms := rfl
@[simp] theorem modScreen_calibration (i : ScreenId) (f : Screen → Screen) : (s.modScreen i f).calibration = s.calibration := rfl
@[simp] theorem modScreen_lines (i : ScreenId) (f : Screen → Screen) : (s.modScreen i f).lines = s.lines := rfl
@[simp] theorem modScreen_loop (i : ScreenId) (f : Screen → Screen) : (s.modScreen i f).loop = s.loop := rfl
@[simp] theorem modScreen_safety (i : ScreenId) (f : Screen → Screen) : (s.modScreen i f).safety = s.safety := rfl
@[simp] theorem modScreen_ports (i : ScreenId) (f : Screen → Screen) : (s.modScreen i f).ports = s.ports := rfl
@[simp] theorem modScreen_completions (i : ScreenId) (f : Screen → Screen) : (s.modScreen i f).completions = s.completions := rfl
@[simp] theorem modScreen_store (i : ScreenId) (f : Screen → Screen) : (s.modScreen i f).store = s.store := rfl
@[simp] theorem modScreen_takings (i : ScreenId) (f : Screen → Screen) : (s.modScreen i f).takings = s.takings := rfl
@[simp] theorem modScreen_freeCount (i : ScreenId) (f : Screen → Screen) : (s.modScreen i f).freeCount = s.freeCount := rfl

@[simp] theorem modPort_pending (p : PortId) (f : Port → Port) : (s.modPort p f).pending = s.pending := rfl
@[simp] theorem modPort_power (p : PortId) (f : Port → Port) : (s.modPort p f).power = s.power := rfl
@[simp] theorem modPort_straps (p : PortId) (f : Port → Port) : (s.modPort p f).straps = s.straps := rfl
@[simp] theorem modPort_houseTime (p : PortId) (f : Port → Port) : (s.modPort p f).houseTime = s.houseTime := rfl
@[simp] theorem modPort_screens (p : PortId) (f : Port → Port) : (s.modPort p f).screens = s.screens := rfl
@[simp] theorem modPort_nonSync (p : PortId) (f : Port → Port) : (s.modPort p f).nonSync = s.nonSync := rfl
@[simp] theorem modPort_pool (p : PortId) (f : Port → Port) : (s.modPort p f).pool = s.pool := rfl
@[simp] theorem modPort_scanner (p : PortId) (f : Port → Port) : (s.modPort p f).scanner = s.scanner := rfl
@[simp] theorem modPort_alarms (p : PortId) (f : Port → Port) : (s.modPort p f).alarms = s.alarms := rfl
@[simp] theorem modPort_calibration (p : PortId) (f : Port → Port) : (s.modPort p f).calibration = s.calibration := rfl
@[simp] theorem modPort_lines (p : PortId) (f : Port → Port) : (s.modPort p f).lines = s.lines := rfl
@[simp] theorem modPort_loop (p : PortId) (f : Port → Port) : (s.modPort p f).loop = s.loop := rfl
@[simp] theorem modPort_safety (p : PortId) (f : Port → Port) : (s.modPort p f).safety = s.safety := rfl
@[simp] theorem modPort_ports (p : PortId) (f : Port → Port) : (s.modPort p f).ports = Tab.modify s.ports p f := rfl
@[simp] theorem modPort_completions (p : PortId) (f : Port → Port) : (s.modPort p f).completions = s.completions := rfl
@[simp] theorem modPort_store (p : PortId) (f : Port → Port) : (s.modPort p f).store = s.store := rfl
@[simp] theorem modPort_takings (p : PortId) (f : Port → Port) : (s.modPort p f).takings = s.takings := rfl
@[simp] theorem modPort_freeCount (p : PortId) (f : Port → Port) : (s.modPort p f).freeCount = s.freeCount := rfl

@[simp] theorem modLine_pending (l : LineId) (f : CueLine → CueLine) : (s.modLine l f).pending = s.pending := rfl
@[simp] theorem modLine_power (l : LineId) (f : CueLine → CueLine) : (s.modLine l f).power = s.power := rfl
@[simp] theorem modLine_straps (l : LineId) (f : CueLine → CueLine) : (s.modLine l f).straps = s.straps := rfl
@[simp] theorem modLine_houseTime (l : LineId) (f : CueLine → CueLine) : (s.modLine l f).houseTime = s.houseTime := rfl
@[simp] theorem modLine_screens (l : LineId) (f : CueLine → CueLine) : (s.modLine l f).screens = s.screens := rfl
@[simp] theorem modLine_nonSync (l : LineId) (f : CueLine → CueLine) : (s.modLine l f).nonSync = s.nonSync := rfl
@[simp] theorem modLine_pool (l : LineId) (f : CueLine → CueLine) : (s.modLine l f).pool = s.pool := rfl
@[simp] theorem modLine_scanner (l : LineId) (f : CueLine → CueLine) : (s.modLine l f).scanner = s.scanner := rfl
@[simp] theorem modLine_alarms (l : LineId) (f : CueLine → CueLine) : (s.modLine l f).alarms = s.alarms := rfl
@[simp] theorem modLine_calibration (l : LineId) (f : CueLine → CueLine) : (s.modLine l f).calibration = s.calibration := rfl
@[simp] theorem modLine_lines (l : LineId) (f : CueLine → CueLine) : (s.modLine l f).lines = Tab.modify s.lines l f := rfl
@[simp] theorem modLine_loop (l : LineId) (f : CueLine → CueLine) : (s.modLine l f).loop = s.loop := rfl
@[simp] theorem modLine_safety (l : LineId) (f : CueLine → CueLine) : (s.modLine l f).safety = s.safety := rfl
@[simp] theorem modLine_ports (l : LineId) (f : CueLine → CueLine) : (s.modLine l f).ports = s.ports := rfl
@[simp] theorem modLine_completions (l : LineId) (f : CueLine → CueLine) : (s.modLine l f).completions = s.completions := rfl
@[simp] theorem modLine_store (l : LineId) (f : CueLine → CueLine) : (s.modLine l f).store = s.store := rfl
@[simp] theorem modLine_takings (l : LineId) (f : CueLine → CueLine) : (s.modLine l f).takings = s.takings := rfl
@[simp] theorem modLine_freeCount (l : LineId) (f : CueLine → CueLine) : (s.modLine l f).freeCount = s.freeCount := rfl

@[simp] theorem modLoop_pending (f : Loop → Loop) : (s.modLoop f).pending = s.pending := rfl
@[simp] theorem modLoop_power (f : Loop → Loop) : (s.modLoop f).power = s.power := rfl
@[simp] theorem modLoop_straps (f : Loop → Loop) : (s.modLoop f).straps = s.straps := rfl
@[simp] theorem modLoop_houseTime (f : Loop → Loop) : (s.modLoop f).houseTime = s.houseTime := rfl
@[simp] theorem modLoop_screens (f : Loop → Loop) : (s.modLoop f).screens = s.screens := rfl
@[simp] theorem modLoop_nonSync (f : Loop → Loop) : (s.modLoop f).nonSync = s.nonSync := rfl
@[simp] theorem modLoop_pool (f : Loop → Loop) : (s.modLoop f).pool = s.pool := rfl
@[simp] theorem modLoop_scanner (f : Loop → Loop) : (s.modLoop f).scanner = s.scanner := rfl
@[simp] theorem modLoop_alarms (f : Loop → Loop) : (s.modLoop f).alarms = s.alarms := rfl
@[simp] theorem modLoop_calibration (f : Loop → Loop) : (s.modLoop f).calibration = s.calibration := rfl
@[simp] theorem modLoop_lines (f : Loop → Loop) : (s.modLoop f).lines = s.lines := rfl
@[simp] theorem modLoop_loop (f : Loop → Loop) : (s.modLoop f).loop = f s.loop := rfl
@[simp] theorem modLoop_safety (f : Loop → Loop) : (s.modLoop f).safety = s.safety := rfl
@[simp] theorem modLoop_ports (f : Loop → Loop) : (s.modLoop f).ports = s.ports := rfl
@[simp] theorem modLoop_completions (f : Loop → Loop) : (s.modLoop f).completions = s.completions := rfl
@[simp] theorem modLoop_store (f : Loop → Loop) : (s.modLoop f).store = s.store := rfl
@[simp] theorem modLoop_takings (f : Loop → Loop) : (s.modLoop f).takings = s.takings := rfl
@[simp] theorem modLoop_freeCount (f : Loop → Loop) : (s.modLoop f).freeCount = s.freeCount := rfl

@[simp] theorem modPool_pending (f : Pool → Pool) : (s.modPool f).pending = s.pending := rfl
@[simp] theorem modPool_power (f : Pool → Pool) : (s.modPool f).power = s.power := rfl
@[simp] theorem modPool_straps (f : Pool → Pool) : (s.modPool f).straps = s.straps := rfl
@[simp] theorem modPool_houseTime (f : Pool → Pool) : (s.modPool f).houseTime = s.houseTime := rfl
@[simp] theorem modPool_screens (f : Pool → Pool) : (s.modPool f).screens = s.screens := rfl
@[simp] theorem modPool_nonSync (f : Pool → Pool) : (s.modPool f).nonSync = s.nonSync := rfl
@[simp] theorem modPool_pool (f : Pool → Pool) : (s.modPool f).pool = f s.pool := rfl
@[simp] theorem modPool_scanner (f : Pool → Pool) : (s.modPool f).scanner = s.scanner := rfl
@[simp] theorem modPool_alarms (f : Pool → Pool) : (s.modPool f).alarms = s.alarms := rfl
@[simp] theorem modPool_calibration (f : Pool → Pool) : (s.modPool f).calibration = s.calibration := rfl
@[simp] theorem modPool_lines (f : Pool → Pool) : (s.modPool f).lines = s.lines := rfl
@[simp] theorem modPool_loop (f : Pool → Pool) : (s.modPool f).loop = s.loop := rfl
@[simp] theorem modPool_safety (f : Pool → Pool) : (s.modPool f).safety = s.safety := rfl
@[simp] theorem modPool_ports (f : Pool → Pool) : (s.modPool f).ports = s.ports := rfl
@[simp] theorem modPool_completions (f : Pool → Pool) : (s.modPool f).completions = s.completions := rfl
@[simp] theorem modPool_store (f : Pool → Pool) : (s.modPool f).store = s.store := rfl
@[simp] theorem modPool_takings (f : Pool → Pool) : (s.modPool f).takings = s.takings := rfl
@[simp] theorem modPool_freeCount (f : Pool → Pool) : (s.modPool f).freeCount = s.freeCount := rfl

@[simp] theorem modStore_pending (f : Store → Store) : (s.modStore f).pending = s.pending := rfl
@[simp] theorem modStore_power (f : Store → Store) : (s.modStore f).power = s.power := rfl
@[simp] theorem modStore_straps (f : Store → Store) : (s.modStore f).straps = s.straps := rfl
@[simp] theorem modStore_houseTime (f : Store → Store) : (s.modStore f).houseTime = s.houseTime := rfl
@[simp] theorem modStore_screens (f : Store → Store) : (s.modStore f).screens = s.screens := rfl
@[simp] theorem modStore_nonSync (f : Store → Store) : (s.modStore f).nonSync = s.nonSync := rfl
@[simp] theorem modStore_pool (f : Store → Store) : (s.modStore f).pool = s.pool := rfl
@[simp] theorem modStore_scanner (f : Store → Store) : (s.modStore f).scanner = s.scanner := rfl
@[simp] theorem modStore_alarms (f : Store → Store) : (s.modStore f).alarms = s.alarms := rfl
@[simp] theorem modStore_calibration (f : Store → Store) : (s.modStore f).calibration = s.calibration := rfl
@[simp] theorem modStore_lines (f : Store → Store) : (s.modStore f).lines = s.lines := rfl
@[simp] theorem modStore_loop (f : Store → Store) : (s.modStore f).loop = s.loop := rfl
@[simp] theorem modStore_safety (f : Store → Store) : (s.modStore f).safety = s.safety := rfl
@[simp] theorem modStore_ports (f : Store → Store) : (s.modStore f).ports = s.ports := rfl
@[simp] theorem modStore_completions (f : Store → Store) : (s.modStore f).completions = s.completions := rfl
@[simp] theorem modStore_store (f : Store → Store) : (s.modStore f).store = f s.store := rfl
@[simp] theorem modStore_takings (f : Store → Store) : (s.modStore f).takings = s.takings := rfl
@[simp] theorem modStore_freeCount (f : Store → Store) : (s.modStore f).freeCount = s.freeCount := rfl

@[simp] theorem withAlarms_pending (a : AlarmTable) : (s.withAlarms a).pending = s.pending := rfl
@[simp] theorem withAlarms_power (a : AlarmTable) : (s.withAlarms a).power = s.power := rfl
@[simp] theorem withAlarms_straps (a : AlarmTable) : (s.withAlarms a).straps = s.straps := rfl
@[simp] theorem withAlarms_houseTime (a : AlarmTable) : (s.withAlarms a).houseTime = s.houseTime := rfl
@[simp] theorem withAlarms_screens (a : AlarmTable) : (s.withAlarms a).screens = s.screens := rfl
@[simp] theorem withAlarms_nonSync (a : AlarmTable) : (s.withAlarms a).nonSync = s.nonSync := rfl
@[simp] theorem withAlarms_pool (a : AlarmTable) : (s.withAlarms a).pool = s.pool := rfl
@[simp] theorem withAlarms_scanner (a : AlarmTable) : (s.withAlarms a).scanner = s.scanner := rfl
@[simp] theorem withAlarms_alarms (a : AlarmTable) : (s.withAlarms a).alarms = a := rfl
@[simp] theorem withAlarms_calibration (a : AlarmTable) : (s.withAlarms a).calibration = s.calibration := rfl
@[simp] theorem withAlarms_lines (a : AlarmTable) : (s.withAlarms a).lines = s.lines := rfl
@[simp] theorem withAlarms_loop (a : AlarmTable) : (s.withAlarms a).loop = s.loop := rfl
@[simp] theorem withAlarms_safety (a : AlarmTable) : (s.withAlarms a).safety = s.safety := rfl
@[simp] theorem withAlarms_ports (a : AlarmTable) : (s.withAlarms a).ports = s.ports := rfl
@[simp] theorem withAlarms_completions (a : AlarmTable) : (s.withAlarms a).completions = s.completions := rfl
@[simp] theorem withAlarms_store (a : AlarmTable) : (s.withAlarms a).store = s.store := rfl
@[simp] theorem withAlarms_takings (a : AlarmTable) : (s.withAlarms a).takings = s.takings := rfl
@[simp] theorem withAlarms_freeCount (a : AlarmTable) : (s.withAlarms a).freeCount = s.freeCount := rfl

@[simp] theorem withCompletions_pending (t : CompletionTable) : (s.withCompletions t).pending = s.pending := rfl
@[simp] theorem withCompletions_power (t : CompletionTable) : (s.withCompletions t).power = s.power := rfl
@[simp] theorem withCompletions_straps (t : CompletionTable) : (s.withCompletions t).straps = s.straps := rfl
@[simp] theorem withCompletions_houseTime (t : CompletionTable) : (s.withCompletions t).houseTime = s.houseTime := rfl
@[simp] theorem withCompletions_screens (t : CompletionTable) : (s.withCompletions t).screens = s.screens := rfl
@[simp] theorem withCompletions_nonSync (t : CompletionTable) : (s.withCompletions t).nonSync = s.nonSync := rfl
@[simp] theorem withCompletions_pool (t : CompletionTable) : (s.withCompletions t).pool = s.pool := rfl
@[simp] theorem withCompletions_scanner (t : CompletionTable) : (s.withCompletions t).scanner = s.scanner := rfl
@[simp] theorem withCompletions_alarms (t : CompletionTable) : (s.withCompletions t).alarms = s.alarms := rfl
@[simp] theorem withCompletions_calibration (t : CompletionTable) : (s.withCompletions t).calibration = s.calibration := rfl
@[simp] theorem withCompletions_lines (t : CompletionTable) : (s.withCompletions t).lines = s.lines := rfl
@[simp] theorem withCompletions_loop (t : CompletionTable) : (s.withCompletions t).loop = s.loop := rfl
@[simp] theorem withCompletions_safety (t : CompletionTable) : (s.withCompletions t).safety = s.safety := rfl
@[simp] theorem withCompletions_ports (t : CompletionTable) : (s.withCompletions t).ports = s.ports := rfl
@[simp] theorem withCompletions_completions (t : CompletionTable) : (s.withCompletions t).completions = t := rfl
@[simp] theorem withCompletions_store (t : CompletionTable) : (s.withCompletions t).store = s.store := rfl
@[simp] theorem withCompletions_takings (t : CompletionTable) : (s.withCompletions t).takings = s.takings := rfl
@[simp] theorem withCompletions_freeCount (t : CompletionTable) : (s.withCompletions t).freeCount = s.freeCount := rfl

@[simp] theorem withCalibration_pending (q : List CalRequest) : (s.withCalibration q).pending = s.pending := rfl
@[simp] theorem withCalibration_power (q : List CalRequest) : (s.withCalibration q).power = s.power := rfl
@[simp] theorem withCalibration_straps (q : List CalRequest) : (s.withCalibration q).straps = s.straps := rfl
@[simp] theorem withCalibration_houseTime (q : List CalRequest) : (s.withCalibration q).houseTime = s.houseTime := rfl
@[simp] theorem withCalibration_screens (q : List CalRequest) : (s.withCalibration q).screens = s.screens := rfl
@[simp] theorem withCalibration_nonSync (q : List CalRequest) : (s.withCalibration q).nonSync = s.nonSync := rfl
@[simp] theorem withCalibration_pool (q : List CalRequest) : (s.withCalibration q).pool = s.pool := rfl
@[simp] theorem withCalibration_scanner (q : List CalRequest) : (s.withCalibration q).scanner = s.scanner := rfl
@[simp] theorem withCalibration_alarms (q : List CalRequest) : (s.withCalibration q).alarms = s.alarms := rfl
@[simp] theorem withCalibration_calibration (q : List CalRequest) : (s.withCalibration q).calibration = q := rfl
@[simp] theorem withCalibration_lines (q : List CalRequest) : (s.withCalibration q).lines = s.lines := rfl
@[simp] theorem withCalibration_loop (q : List CalRequest) : (s.withCalibration q).loop = s.loop := rfl
@[simp] theorem withCalibration_safety (q : List CalRequest) : (s.withCalibration q).safety = s.safety := rfl
@[simp] theorem withCalibration_ports (q : List CalRequest) : (s.withCalibration q).ports = s.ports := rfl
@[simp] theorem withCalibration_completions (q : List CalRequest) : (s.withCalibration q).completions = s.completions := rfl
@[simp] theorem withCalibration_store (q : List CalRequest) : (s.withCalibration q).store = s.store := rfl
@[simp] theorem withCalibration_takings (q : List CalRequest) : (s.withCalibration q).takings = s.takings := rfl
@[simp] theorem withCalibration_freeCount (q : List CalRequest) : (s.withCalibration q).freeCount = s.freeCount := rfl

@[simp] theorem withQueue_pending (q : List Instr) : (s.withQueue q).pending = q := rfl
@[simp] theorem withQueue_power (q : List Instr) : (s.withQueue q).power = s.power := rfl
@[simp] theorem withQueue_straps (q : List Instr) : (s.withQueue q).straps = s.straps := rfl
@[simp] theorem withQueue_houseTime (q : List Instr) : (s.withQueue q).houseTime = s.houseTime := rfl
@[simp] theorem withQueue_screens (q : List Instr) : (s.withQueue q).screens = s.screens := rfl
@[simp] theorem withQueue_nonSync (q : List Instr) : (s.withQueue q).nonSync = s.nonSync := rfl
@[simp] theorem withQueue_pool (q : List Instr) : (s.withQueue q).pool = s.pool := rfl
@[simp] theorem withQueue_scanner (q : List Instr) : (s.withQueue q).scanner = s.scanner := rfl
@[simp] theorem withQueue_alarms (q : List Instr) : (s.withQueue q).alarms = s.alarms := rfl
@[simp] theorem withQueue_calibration (q : List Instr) : (s.withQueue q).calibration = s.calibration := rfl
@[simp] theorem withQueue_lines (q : List Instr) : (s.withQueue q).lines = s.lines := rfl
@[simp] theorem withQueue_loop (q : List Instr) : (s.withQueue q).loop = s.loop := rfl
@[simp] theorem withQueue_safety (q : List Instr) : (s.withQueue q).safety = s.safety := rfl
@[simp] theorem withQueue_ports (q : List Instr) : (s.withQueue q).ports = s.ports := rfl
@[simp] theorem withQueue_completions (q : List Instr) : (s.withQueue q).completions = s.completions := rfl
@[simp] theorem withQueue_store (q : List Instr) : (s.withQueue q).store = s.store := rfl
@[simp] theorem withQueue_takings (q : List Instr) : (s.withQueue q).takings = s.takings := rfl
@[simp] theorem withQueue_freeCount (q : List Instr) : (s.withQueue q).freeCount = s.freeCount := rfl

/-! ### The updates inside a screen are updates of the screen -/

@[simp] theorem modLane_eq (i : ScreenId) (f : Lane → Lane) :
    s.modLane i f = s.modScreen i fun c => { c with lane := f c.lane } := rfl
@[simp] theorem modRenderer_eq (i : ScreenId) (f : Renderer → Renderer) :
    s.modRenderer i f = s.modScreen i fun c => { c with renderer := f c.renderer } := rfl
@[simp] theorem modSettings_eq (i : ScreenId) (f : Settings → Settings) :
    s.modSettings i f = s.modScreen i fun c => { c with settings := f c.settings } := rfl
@[simp] theorem modEqualiser_eq (i : ScreenId) (f : Equaliser → Equaliser) :
    s.modEqualiser i f = s.modScreen i fun c => { c with equaliser := f c.equaliser } := rfl
@[simp] theorem modPath_eq (i : ScreenId) (f : SignalPath → SignalPath) :
    s.modPath i f = s.modScreen i fun c => { c with path := f c.path } := rfl
@[simp] theorem modFeeds_eq (i : ScreenId) (f : Vector Feed 16 → Vector Feed 16) :
    s.modFeeds i f = s.modScreen i fun c => { c with feeds := f c.feeds } := rfl
@[simp] theorem modFeed_eq (i : ScreenId) (k : FeedId) (f : Feed → Feed) :
    s.modFeed i k f = s.modScreen i fun c => { c with feeds := Tab.modify c.feeds k f } := rfl
@[simp] theorem modGovernor_eq (i : ScreenId) (f : Governor → Governor) :
    s.modGovernor i f = s.modScreen i fun c => { c with governor := f c.governor } := rfl
@[simp] theorem modControl_eq (i : ScreenId) (f : ShowControl → ShowControl) :
    s.modControl i f = s.modScreen i fun c => { c with control := f c.control } := rfl
@[simp] theorem modStation_eq (k : StationId) (f : Station → Station) :
    s.modStation k f = s.modLoop fun l => { l with stations := Tab.modify l.stations k f } := rfl

/-! ### Views -/

theorem control_eq (i : ScreenId) : s.control i = (s.screen i).control := rfl
theorem equaliser_eq (i : ScreenId) : s.equaliser i = (s.screen i).equaliser := rfl
theorem feed_eq (i : ScreenId) (f : FeedId) : s.feed i f = Tab.get (s.screen i).feeds f := rfl

theorem modScreen_screen (i j : ScreenId) (f : Screen → Screen) :
    (s.modScreen i f).screen j = if i = j then f (s.screen j) else s.screen j := Tab.get_modify ..
@[simp] theorem modScreen_screen_self (i : ScreenId) (f : Screen → Screen) :
    (s.modScreen i f).screen i = f (s.screen i) := Tab.get_modify_self ..
theorem modScreen_screen_ne {i j : ScreenId} (f : Screen → Screen) (h : i ≠ j) :
    (s.modScreen i f).screen j = s.screen j := Tab.get_modify_ne _ f h
@[simp] theorem modScreen_port (i : ScreenId) (f : Screen → Screen) (p : PortId) :
    (s.modScreen i f).port p = s.port p := rfl
@[simp] theorem modScreen_line (i : ScreenId) (f : Screen → Screen) (l : LineId) :
    (s.modScreen i f).line l = s.line l := rfl
@[simp] theorem modScreen_station (i : ScreenId) (f : Screen → Screen) (k : StationId) :
    (s.modScreen i f).station k = s.station k := rfl

theorem modPort_port (p q : PortId) (f : Port → Port) :
    (s.modPort p f).port q = if p = q then f (s.port q) else s.port q := Tab.get_modify ..
@[simp] theorem modPort_port_self (p : PortId) (f : Port → Port) : (s.modPort p f).port p = f (s.port p) :=
  Tab.get_modify_self ..
theorem modPort_port_ne {p q : PortId} (f : Port → Port) (h : p ≠ q) : (s.modPort p f).port q = s.port q :=
  Tab.get_modify_ne _ f h
@[simp] theorem modPort_screen (p : PortId) (f : Port → Port) (i : ScreenId) : (s.modPort p f).screen i = s.screen i := rfl
@[simp] theorem modPort_line (p : PortId) (f : Port → Port) (l : LineId) : (s.modPort p f).line l = s.line l := rfl
@[simp] theorem modPort_station (p : PortId) (f : Port → Port) (k : StationId) :
    (s.modPort p f).station k = s.station k := rfl

theorem modLine_line (l m : LineId) (f : CueLine → CueLine) :
    (s.modLine l f).line m = if l = m then f (s.line m) else s.line m := Tab.get_modify ..
@[simp] theorem modLine_line_self (l : LineId) (f : CueLine → CueLine) : (s.modLine l f).line l = f (s.line l) :=
  Tab.get_modify_self ..
@[simp] theorem modLine_screen (l : LineId) (f : CueLine → CueLine) (i : ScreenId) :
    (s.modLine l f).screen i = s.screen i := rfl
@[simp] theorem modLine_port (l : LineId) (f : CueLine → CueLine) (p : PortId) : (s.modLine l f).port p = s.port p := rfl
@[simp] theorem modLine_station (l : LineId) (f : CueLine → CueLine) (k : StationId) :
    (s.modLine l f).station k = s.station k := rfl

theorem modStation_station (k m : StationId) (f : Station → Station) :
    (s.modStation k f).station m = if k = m then f (s.station m) else s.station m := Tab.get_modify ..
@[simp] theorem modLoop_screen (f : Loop → Loop) (i : ScreenId) : (s.modLoop f).screen i = s.screen i := rfl
@[simp] theorem modLoop_port (f : Loop → Loop) (p : PortId) : (s.modLoop f).port p = s.port p := rfl
@[simp] theorem modLoop_line (f : Loop → Loop) (l : LineId) : (s.modLoop f).line l = s.line l := rfl

@[simp] theorem modPool_screen (f : Pool → Pool) (i : ScreenId) : (s.modPool f).screen i = s.screen i := rfl
@[simp] theorem modStore_screen (f : Store → Store) (i : ScreenId) : (s.modStore f).screen i = s.screen i := rfl
@[simp] theorem modStore_port (f : Store → Store) (p : PortId) : (s.modStore f).port p = s.port p := rfl
@[simp] theorem withAlarms_screen (a : AlarmTable) (i : ScreenId) : (s.withAlarms a).screen i = s.screen i := rfl
@[simp] theorem withAlarms_port (a : AlarmTable) (p : PortId) : (s.withAlarms a).port p = s.port p := rfl
@[simp] theorem withAlarms_line (a : AlarmTable) (l : LineId) : (s.withAlarms a).line l = s.line l := rfl
@[simp] theorem withAlarms_station (a : AlarmTable) (k : StationId) : (s.withAlarms a).station k = s.station k := rfl
@[simp] theorem withCompletions_screen (t : CompletionTable) (i : ScreenId) :
    (s.withCompletions t).screen i = s.screen i := rfl
@[simp] theorem withCompletions_port (t : CompletionTable) (p : PortId) : (s.withCompletions t).port p = s.port p := rfl
@[simp] theorem withCalibration_screen (q : List CalRequest) (i : ScreenId) :
    (s.withCalibration q).screen i = s.screen i := rfl
@[simp] theorem withCalibration_port (q : List CalRequest) (p : PortId) : (s.withCalibration q).port p = s.port p := rfl

/-- A screen update that leaves the screen as it is leaves the state as it is. -/
theorem modScreen_id (i : ScreenId) : (s.modScreen i fun c => c) = s := by
  simp [modScreen, Tab.modify]

end Sys2Proof.Machine.State
end

