-- ==== Sys2Proof/Laws/Ops.lean ====
section
/-! SUPPORT. What each shared operation can do to the state, said once: the parts that it may change, and what it leaves. -/

namespace Sys2Proof.Machine

-- One declaration after another: the package as one text has hundreds of short proofs.
set_option Elab.async false

/-! ### Guards of a row -/

@[simp] theorem whenRunning_running {s : State} (h : Running s) (f : State → State) : whenRunning s f = f s := by
  simp [whenRunning, h]

/-- While start-up counts, a row changes nothing. -/
theorem whenRunning_stabilising {s : State} {b : Bool} (h : s.power = .stabilising b) (f : State → State) :
    whenRunning s f = s := by
  simp [whenRunning, h]

/-- A guarded row either changes nothing or does what it stands for, with the part running. -/
theorem whenRunning_cases (s : State) (f : State → State) :
    whenRunning s f = s ∨ (Running s ∧ whenRunning s f = f s) := by
  unfold whenRunning
  split
  · exact .inr ⟨‹_›, rfl⟩
  · exact .inl rfl

/-- What a sub-step does where its boundary is open and what it stands for has come. -/
theorem atBoundary_open {s : State} {i : ScreenId} {sub : SubStep} {come : State → Bool} (f : State → State)
    (h : Running s) (ho : BoundaryOpen s i sub) (hc : come s = true) :
    atBoundary s i sub come f = (f s).modPath i fun p => { p with taken := sub :: p.taken } := by
  unfold atBoundary
  rw [whenRunning_running h, if_pos]
  simpa [hc] using ho

/-- A sub-step changes nothing, or does what it stands for and is noted as taken. -/
theorem atBoundary_cases (s : State) (i : ScreenId) (sub : SubStep) (come : State → Bool) (f : State → State) :
    atBoundary s i sub come f = s ∨
      (Running s ∧ BoundaryOpen s i sub ∧ come s = true ∧
        atBoundary s i sub come f = (f s).modPath i fun p => { p with taken := sub :: p.taken }) := by
  unfold atBoundary
  rcases whenRunning_cases s _ with h | ⟨hr, h⟩ <;> rw [h]
  · exact .inl rfl
  · split
    · next hb =>
      simp only [Bool.and_eq_true, Bool.not_eq_true', List.contains_eq_mem, decide_eq_false_iff_not] at hb
      exact .inr ⟨hr, ⟨hb.1.1, hb.1.2⟩, hb.2, rfl⟩
    · exact .inl rfl

/-! ### Port commands -/

/-- A command being executed gives its answer's result to its port. -/
theorem runCommand_executing {s : State} {p : PortId} {op : Byte} {params : List Byte} (h : Executing s p op params)
    (fits : Nat → Bool) (body : State → Answer) :
    runCommand s p op params fits body =
      (let a := if fits params.length then body s else refuse s .badLength
       placeResult a.state p (a.record op)) := by
  obtain ⟨hr, hp, hc⟩ := h
  unfold runCommand
  rw [whenRunning_running hr, if_pos (by simp [executing, hp, hc])]

/-- A port command changes nothing, or it is being executed. -/
theorem runCommand_cases (s : State) (p : PortId) (op : Byte) (params : List Byte) (fits : Nat → Bool)
    (body : State → Answer) :
    runCommand s p op params fits body = s ∨
      (Executing s p op params ∧ runCommand s p op params fits body =
        (let a := if fits params.length then body s else refuse s .badLength
         placeResult a.state p (a.record op))) := by
  by_cases h : Executing s p op params
  · exact .inr ⟨h, runCommand_executing h fits body⟩
  · refine .inl ?_
    unfold runCommand
    rcases whenRunning_cases s _ with e | ⟨hr, e⟩ <;> rw [e]
    rw [if_neg]
    intro hx
    simp only [executing, Bool.and_eq_true, beq_iff_eq] at hx
    exact h ⟨hr, hx.1, hx.2⟩

/-- A command whose checks all pass gives its answer. -/
theorem checked_pass {s : State} {checks : List (Bool × Reason)} (body : Answer) (h : ∀ c ∈ checks, c.1 = false) :
    checked s checks body = body := by
  have hf : checks.find? (fun c => c.1) = none := by
    rw [List.find?_eq_none]
    intro c hc
    simp [h c hc]
  simp [checked, firstReason, hf]

/-- A check that fails first refuses the command. -/
theorem checked_head (s : State) (r : Reason) (rest : List (Bool × Reason)) (body : Answer) :
    checked s ((true, r) :: rest) body = refuse s r := by
  simp [checked, firstReason]

/-- A check that passes leaves the judgement to the others. -/
theorem checked_tail (s : State) (r : Reason) (rest : List (Bool × Reason)) (body : Answer) :
    checked s ((false, r) :: rest) body = checked s rest body := by
  simp [checked, firstReason]

/-- A checked command is refused with nothing changed, or gives its answer. -/
theorem checked_cases (s : State) (checks : List (Bool × Reason)) (body : Answer) :
    (∃ r, checked s checks body = refuse s r) ∨ checked s checks body = body := by
  unfold checked
  split
  · exact .inl ⟨_, rfl⟩
  · exact .inr rfl

/-! ### Alarms -/

/-- A report of a condition changes the alarm table alone. -/
theorem alarmChange_spec (s : State) (kind : AlarmKind) (scope : Scope) (before after : Bool) :
    alarmChange s kind scope before after = s.withAlarms
      (if before = after then s.alarms
        else if after then s.alarms.start s.houseTime kind scope else s.alarms.finish s.houseTime kind scope) := by
  unfold alarmChange
  cases before <;> cases after <;> rfl

@[simp] theorem alarmChange_same (s : State) (kind : AlarmKind) (scope : Scope) (b : Bool) :
    alarmChange s kind scope b b = s := by
  simp [alarmChange]

theorem alarmChange_alarms (s : State) (kind : AlarmKind) (scope : Scope) (before after : Bool) :
    ∃ a, alarmChange s kind scope before after = s.withAlarms a := ⟨_, alarmChange_spec ..⟩

/-- Writing a feed record changes that record and the alarm table. -/
theorem setFeed_spec (s : State) (i : ScreenId) (f : FeedId) (new : Feed) :
    ∃ a, setFeed s i f new = (s.modFeed i f fun _ => new).withAlarms a := by
  unfold setFeed
  obtain ⟨a, ha⟩ := alarmChange_alarms (s.modFeed i f fun _ => new) .dead (.feed i f) (s.feed i f).dead new.dead
  obtain ⟨b, hb⟩ := alarmChange_alarms ((s.modFeed i f fun _ => new).withAlarms a) .hot (.feed i f) (s.feed i f).hot new.hot
  obtain ⟨c, hc⟩ :=
    alarmChange_alarms (((s.modFeed i f fun _ => new).withAlarms a).withAlarms b) .overLevel (.feed i f) (s.feed i f).overLevel new.overLevel
  obtain ⟨d, hd⟩ := alarmChange_alarms
    ((((s.modFeed i f fun _ => new).withAlarms a).withAlarms b).withAlarms c) .clip (.feed i f) (s.feed i f).clip new.clip
  exact ⟨d, by simp only [ha, hb, hc, hd]; rfl⟩

/-- Replacing a lane changes that lane and the alarm table. -/
theorem setLane_spec (s : State) (i : ScreenId) (new : Lane) :
    ∃ a, setLane s i new = (s.modLane i fun _ => new).withAlarms a := by
  unfold setLane
  obtain ⟨a, ha⟩ := alarmChange_alarms (s.modLane i fun _ => new) .lost (.screen i) (s.screen i).lane.lost new.lost
  obtain ⟨b, hb⟩ := alarmChange_alarms ((s.modLane i fun _ => new).withAlarms a) .formatUnknown (.screen i)
    (s.screen i).lane.formatUnknown new.formatUnknown
  exact ⟨b, by simp only [ha, hb]; rfl⟩

/-- A lane replaced by one with the same two conditions reports nothing. -/
theorem setLane_quiet (s : State) (i : ScreenId) (new : Lane) (h : new.lost = (s.screen i).lane.lost)
    (h' : new.formatUnknown = (s.screen i).lane.formatUnknown) : setLane s i new = s.modLane i fun _ => new := by
  simp [setLane, h, h']

/-- Replacing a governor changes that governor and the alarm table. -/
theorem setGovernor_spec (s : State) (i : ScreenId) (g : Governor) :
    ∃ a, setGovernor s i g = (s.modGovernor i fun _ => g).withAlarms a := alarmChange_alarms ..

/-- A change of a screen that reports POOL_SHORT changes that screen and the alarm table. -/
theorem modPoolShort_spec (s : State) (i : ScreenId) (f : Screen → Screen) :
    ∃ a, modPoolShort s i f = (s.modScreen i f).withAlarms a := alarmChange_alarms ..

/-- Setting or clearing a fault mark changes the mark and the alarm table. -/
theorem setFaultMark_spec (s : State) (r : RecordId) (on : Bool) :
    ∃ a, setFaultMark s r on = (s.modStore fun t => { t with faults := Tab.set t.faults r on }).withAlarms a :=
  alarmChange_alarms ..

/-! ### Completion entries -/

/-- An entry that becomes DONE changes the completion table alone. -/
theorem finishEntry_spec (s : State) (ticket : Nat) (t : Termination) (r : Reason) (payload : List Byte) :
    ∃ c, finishEntry s ticket t r payload = s.withCompletions c := ⟨_, rfl⟩

/-- Taking an entry changes the completion table alone. -/
theorem takeEntry_spec (s : State) (p : PortId) (kind : OperationKind) :
    ∃ c, takeEntry s p kind = s.withCompletions c := ⟨_, rfl⟩

/-- Entries keep their tickets, owners and kinds when one becomes DONE. -/
theorem finishEntry_tickets (s : State) (ticket : Nat) (t : Termination) (r : Reason) (payload : List Byte) :
    (finishEntry s ticket t r payload).completions.entries.map Entry.ticket = s.completions.entries.map Entry.ticket := by
  simp only [finishEntry, State.withCompletions, List.map_map]
  congr 1
  funext e
  simp only [Function.comp_apply]
  split <;> rfl

/-- Ending calibration requests changes the calibration queue and the completion table. -/
theorem endRequests_spec (s : State) (reached : CalRequest → Bool) (reason : Reason) :
    ∃ c, endRequests s reached reason =
      (s.withCompletions c).withCalibration (s.calibration.filter fun r => !reached r) := by
  have h : ∀ (rs : List CalRequest) (u : State), ∃ c, rs.foldl
      (fun s r => finishEntry s r.ticket .abrupt reason (r.payload (r.tone.map Tone.feed))) u = u.withCompletions c := by
    intro rs
    induction rs with
    | nil => exact fun u => ⟨u.completions, rfl⟩
    | cons r rs ih =>
      intro u
      obtain ⟨c, hc⟩ := finishEntry_spec u r.ticket .abrupt reason (r.payload (r.tone.map Tone.feed))
      obtain ⟨d, hd⟩ := ih (u.withCompletions c)
      exact ⟨d, by rw [List.foldl_cons, hc, hd]; rfl⟩
  obtain ⟨c, hc⟩ := h (s.calibration.filter reached) s
  exact ⟨c, by unfold endRequests; rw [hc]⟩

/-- A request ended in the pending place changes the completion table alone. -/
theorem endPending_spec (s : State) (r : Request) (o : ActivationOutcome) :
    ∃ c, endPending s r o = s.withCompletions c := by
  unfold endPending
  split
  · exact ⟨_, rfl⟩
  · exact ⟨s.completions, rfl⟩
  · exact ⟨s.completions, rfl⟩

/-- A request put into the pending place changes that place and the completion table. -/
theorem requestActivation_spec (s : State) (i : ScreenId) (r : Request) :
    ∃ c, requestActivation s i r =
      (s.withCompletions c).modEqualiser i fun e => { e with pending := some r } := by
  unfold requestActivation
  split
  · next old _ =>
    obtain ⟨c, hc⟩ := endPending_spec s old .replaced
    exact ⟨c, by rw [hc]⟩
  · exact ⟨s.completions, rfl⟩

/-! ### Cue reports -/

/-- A report to a cue changes the outcome of that cue alone. -/
theorem reportCue_spec (s : State) (ref : CueRef) (o : CueOutcome) :
    ∃ g : Cue → Cue, (∀ q, ∃ o', g q = { q with outcome := o' }) ∧
      reportCue s ref o = s.modControl ref.screen fun c => { c with cues := c.cues.modify ref.index g } := by
  refine ⟨fun q => if q.taken && q.taking == ref.taking then { q with outcome := o } else q, fun q => ?_, rfl⟩
  show ∃ o', (if q.taken && q.taking == ref.taking then { q with outcome := o } else q) = { q with outcome := o' }
  split
  · exact ⟨o, rfl⟩
  · exact ⟨q.outcome, rfl⟩

/-- The fate of an order changes the outcome of the cue it came from, or nothing. -/
theorem reportOrder_spec (o : CueOutcome) (s : State) (origin : OrderOrigin) :
    reportOrder o s origin = s ∨ ∃ ref, origin = .cue ref ∧ reportOrder o s origin = reportCue s ref o := by
  cases origin with
  | cue ref => exact .inr ⟨ref, rfl, rfl⟩
  | port p => exact .inl rfl

/-! ### The cue loop -/

theorem settleCongestion_spec (s : State) :
    ∃ b a, settleCongestion s = (s.modLoop fun l => { l with congested := b }).withAlarms a := by
  unfold settleCongestion
  split
  · exact ⟨false, _, rfl⟩
  · exact ⟨s.loop.congested, s.alarms, rfl⟩

theorem startCongestion_spec (s : State) :
    ∃ a, startCongestion s = (s.modLoop fun l => { l with congested := true }).withAlarms a := by
  unfold startCongestion
  split
  · next h =>
    refine ⟨s.alarms, ?_⟩
    cases s
    rename_i l _ _ _ _ _ _
    cases l
    simp_all [State.modLoop, State.withAlarms]
  · exact ⟨_, rfl⟩

theorem sendOrderTo_spec (s : State) (k : StationId) (o : Order) (place : Nat) (rest : List Order) :
    ∃ l a, sendOrderTo s k o place rest = { s with loop := l, alarms := a } := by
  obtain ⟨b, a, h⟩ := settleCongestion_spec (s.modLoop fun l => { l with queue := rest })
  exact ⟨(sendOrderTo s k o place rest).loop, a, by simp only [sendOrderTo, h]; rfl⟩

theorem sendBroadcast_spec (s : State) (address : Nat) (o : Order) (place : Nat) (rest : List Order) :
    ∃ l a, sendBroadcast s address o place rest = { s with loop := l, alarms := a } := by
  obtain ⟨b, a, h⟩ := settleCongestion_spec (s.modLoop fun l => { l with queue := rest })
  exact ⟨(sendBroadcast s address o place rest).loop, a, by simp only [sendBroadcast, h]; rfl⟩

/-- The transmitter changes the loop and the alarm table alone. -/
theorem takeFrame_spec (s : State) : ∃ l a, takeFrame s = { s with loop := l, alarms := a } := by
  unfold takeFrame
  split
  · exact ⟨_, s.alarms, rfl⟩
  · exact ⟨_, s.alarms, rfl⟩
  · exact ⟨_, s.alarms, rfl⟩
  · split
    · exact sendOrderTo_spec ..
    · exact sendBroadcast_spec ..
  · exact ⟨s.loop, s.alarms, rfl⟩

theorem putBack_spec (s : State) (place : Nat) (o : Order) : ∃ l, putBack s place o = { s with loop := l } := ⟨_, rfl⟩

theorem giveDue_spec (s : State) (k : StationId) (d : FrameDue) : ∃ l, giveDue s k d = { s with loop := l } := by
  unfold giveDue
  split
  · exact ⟨s.loop, rfl⟩
  · exact ⟨_, rfl⟩

theorem giveResend_spec (s : State) (k : StationId) (at_ number : Nat) :
    ∃ l, giveResend s k at_ number = { s with loop := l } := by
  simp only [giveResend]
  split
  · exact ⟨_, rfl⟩
  · exact ⟨s.loop, rfl⟩

theorem giveOrder_spec (s : State) (k : StationId) (place number code argument : Nat) :
    ∃ l, giveOrder s k place number code argument = { s with loop := l } := by
  unfold giveOrder
  split
  · split
    · exact ⟨_, rfl⟩
    · exact ⟨s.loop, rfl⟩
  · exact ⟨s.loop, rfl⟩

/-- A frame that goes back changes the loop alone. -/
theorem giveBack_spec (s : State) (f : LoopFrame) (source : FrameSource) : ∃ l, giveBack s f source = { s with loop := l } := by
  unfold giveBack
  split
  · exact ⟨_, rfl⟩
  · exact giveDue_spec ..
  · exact giveDue_spec ..
  · exact giveResend_spec ..
  · exact giveOrder_spec ..
  · exact putBack_spec ..
  · exact ⟨s.loop, rfl⟩

/-- Judging again changes the loop alone. -/
theorem reopen_spec (s : State) : ∃ l, reopen s = { s with loop := l } := by
  unfold reopen
  split
  · split
    · next f source _ _ _ =>
      obtain ⟨l, h⟩ := giveBack_spec s f source
      exact ⟨_, by rw [h]; rfl⟩
    · exact ⟨s.loop, rfl⟩
  · exact ⟨s.loop, rfl⟩

/-- Where the loop did not become FREE at this instant, or nothing is being sent, there is nothing to judge again. -/
theorem reopen_settled {s : State} (h : s.loop.freedAt ≠ some s.scanner.slot ∨ ∀ f, s.loop.state ≠ .sending f) :
    reopen s = s := by
  unfold reopen
  split
  · next e _ => simp_all
  · rfl

/-- Judging again puts at most the order back that counts among those held, and holds no more orders than before. -/
theorem reopen_ordersHeld (s : State) : ordersHeld (reopen s) ≤ ordersHeld s ∧ s.loop.queue.length ≤ (reopen s).loop.queue.length := by
  have back (u : State) (place : Nat) (o : Order) :
      (putBack u place o).loop.queue.length = u.loop.queue.length + 1 := by
    simp only [putBack, State.modLoop, List.length_append, List.length_cons, List.length_take, List.length_drop]
    omega
  have free (u : State) :
      ordersHeld (u.modLoop fun l => { l with state := .free, source := none }) = u.loop.queue.length := by
    simp [ordersHeld, orderOpen, State.modLoop]
  unfold reopen
  split
  · next f source hf hs =>
    split
    · next now =>
      rw [free]
      show _ ∧ s.loop.queue.length ≤ (giveBack s f source).loop.queue.length
      have held : ∀ place, source = .queue place → ordersHeld s = s.loop.queue.length + 1 := by
        intro place e
        subst e
        simp [ordersHeld, orderOpen, hf, hs, now]
      have kept : s.loop.queue.length ≤ ordersHeld s := Nat.le_add_right ..
      unfold giveBack giveDue giveOrder
      simp only [giveResend]
      repeat' split
      all_goals first
        | exact ⟨kept, Nat.le_refl _⟩
        | (rw [back, held _ rfl]; exact ⟨Nat.le_refl _, Nat.le_succ _⟩)
    · exact ⟨Nat.le_refl _, Nat.le_refl _⟩
  · exact ⟨Nat.le_refl _, Nat.le_refl _⟩

/-- Where nothing is judged again, the orders held are those of the queue. -/
theorem ordersHeld_settled {s : State} (h : s.loop.freedAt ≠ some s.scanner.slot ∨ ∀ f, s.loop.state ≠ .sending f) :
    ordersHeld s = s.loop.queue.length := by
  unfold ordersHeld orderOpen
  split
  · next f _ e _ =>
    rcases h with h | h
    · simp [h]
    · exact absurd e (h f)
  · simp

theorem arbitrate_spec (s : State) : ∃ l a, arbitrate s = { s with loop := l, alarms := a } := by
  unfold arbitrate
  split
  · obtain ⟨l, h⟩ := reopen_spec s
    obtain ⟨l', a, h'⟩ := takeFrame_spec (reopen s)
    exact ⟨l', a, by rw [h', h]⟩
  · exact ⟨s.loop, s.alarms, rfl⟩
  · exact ⟨s.loop, s.alarms, rfl⟩

/-- While the loop is not FREE the transmitter takes nothing, but at the instant at which the loop became FREE. -/
theorem arbitrate_busy {s : State} (h : s.loop.state ≠ .free)
    (now : s.loop.freedAt ≠ some s.scanner.slot ∨ ∀ f, s.loop.state ≠ .sending f) : arbitrate s = s := by
  unfold arbitrate
  rw [reopen_settled now]
  split
  · next e => exact absurd e h
  · rfl
  · rfl

/-- With the loop FREE the transmitter takes the first due frame. -/
theorem arbitrate_free {s : State} (h : s.loop.state = .free) : arbitrate s = takeFrame s := by
  unfold arbitrate
  rw [reopen_settled (.inr (by simp [h])), h]

/-! ### Slots -/

/-- Allocation moves slots from the head of the free list, in order, one for each section as far as the list goes. -/
theorem allocate_free (pool : Pool) (cs : List Coefficients) :
    (allocate pool cs).2 ++ (allocate pool cs).1.free = pool.free ∧ (allocate pool cs).2.length = min cs.length pool.free.length := by
  induction cs generalizing pool with
  | nil => simp [allocate]
  | cons c cs ih =>
    obtain ⟨slots, free⟩ := pool
    cases free with
    | nil => simp [allocate]
    | cons k free =>
      obtain ⟨h1, h2⟩ := ih ⟨Tab.set slots k (freshSection c), free⟩
      constructor
      · simpa [allocate] using h1
      · simp only [allocate, List.length_cons, h2]
        omega

/-- The chains of feeds, one after another, are slots from the head of the free list. -/
theorem allocateChains_free (pool : Pool) (css : List (List Coefficients)) :
    (allocateChains pool css).2.flatten ++ (allocateChains pool css).1.free = pool.free := by
  induction css generalizing pool with
  | nil => simp [allocateChains]
  | cons cs css ih =>
    have h := ih (allocate pool cs).1
    have h' := (allocate_free pool cs).1
    simp only [allocateChains, List.flatten_cons, List.append_assoc, h]
    exact h'

/-! ### Leaving IDLE -/

/-- A screen that enters DARK leaves its other parts but for the calibration queue, the completion table and its lines' place in
the rotation. -/
theorem enterDark_spec (s : State) (i : ScreenId) :
    ∃ c v, enterDark s i =
      (((s.withCompletions c).withCalibration (s.calibration.filter fun r => !(r.screen == i))).modControl i
        fun k => { k with state := .dark, sleepHeld := false }).modFeeds i fun _ => v := by
  obtain ⟨c, hc⟩ := endRequests_spec s (fun r => r.screen == i) .wrongState
  exact ⟨c, (Tab.get (enterDark s i).screens i).feeds, by
    simp only [enterDark, syncRotation, hc, State.modFeeds, State.modScreen, Tab.modify]
    simp only [Tab.get_set_self]⟩

/-! ### The loop and the feeds -/

/-- A frame is taken as a TALLY, or changes nothing (R150, R151). -/
theorem frameReceived_cases (s : State) (bytes : List Byte) :
    (∃ y, (∀ f, (atExpiry s).loop.state ≠ .sending f) ∧ tallyOf bytes = some y ∧
        frameReceived s bytes = takeTally (atExpiry s) y) ∨
      (((∃ f, (atExpiry s).loop.state = .sending f) ∨ tallyOf bytes = none) ∧ frameReceived s bytes = s) := by
  unfold frameReceived
  cases tallyOf bytes <;> cases (atExpiry s).loop.state <;> simp

theorem deadHere_iff (r : Feed) : r.deadHere = true ↔ r.dead = true ∨ r.revived = true := by simp [Feed.deadHere]

end Sys2Proof.Machine
end

