-- ==== Sys2Proof/Laws/PerInstr.lean ====
section
/-! SUPPORT. One lemma per command: a port command's window begins with the command's opcode, and a row that is no port command has
neither (R173, R198). -/

namespace Sys2Proof.Laws.PortCommandHasOpcode

-- One declaration after another: the package as one text has hundreds of short proofs.
set_option Elab.async false

/-- The window that carries the command begins with its opcode; without a window there is no opcode. -/
def Statement (i : Instr) : Prop :=
  (∀ (p : PortId) (bytes : List Byte), i.window = some (p, bytes) → bytes.head? = i.opcode) ∧
    (i.window = none → i.opcode = none)

theorem powerOn : Statement .powerOn := by simp +contextual [Statement, Instr.window, Instr.opcode]
theorem resetLine : Statement .resetLine := by simp +contextual [Statement, Instr.window, Instr.opcode]
theorem stabilisationEnd (storeBypass quietStart : Bool) : Statement (.stabilisationEnd storeBypass quietStart) :=
  by simp +contextual [Statement, Instr.window, Instr.opcode]
theorem wordFrameArrival (i : ScreenId) (words : List Word) : Statement (.wordFrameArrival i words) :=
  by simp +contextual [Statement, Instr.window, Instr.opcode]
theorem laneAbsenceTimeout (i : ScreenId) : Statement (.laneAbsenceTimeout i) :=
  by simp +contextual [Statement, Instr.window, Instr.opcode]
theorem nonSyncFrameArrival (left right : Word) : Statement (.nonSyncFrameArrival left right) :=
  by simp +contextual [Statement, Instr.window, Instr.opcode]
theorem blockBoundary (i : ScreenId) : Statement (.blockBoundary i) :=
  by simp +contextual [Statement, Instr.window, Instr.opcode]
theorem segmentCompletion (i : ScreenId) : Statement (.segmentCompletion i) :=
  by simp +contextual [Statement, Instr.window, Instr.opcode]
theorem crossfadeEnd (i : ScreenId) : Statement (.crossfadeEnd i) :=
  by simp +contextual [Statement, Instr.window, Instr.opcode]
theorem cutExchange (i : ScreenId) : Statement (.cutExchange i) :=
  by simp +contextual [Statement, Instr.window, Instr.opcode]
theorem cutEnd (i : ScreenId) : Statement (.cutEnd i) := by simp +contextual [Statement, Instr.window, Instr.opcode]
theorem freeRunLimit (i : ScreenId) : Statement (.freeRunLimit i) :=
  by simp +contextual [Statement, Instr.window, Instr.opcode]
theorem pulseEnd (l : LineId) : Statement (.pulseEnd l) := by simp +contextual [Statement, Instr.window, Instr.opcode]
theorem fadeEnd (i : ScreenId) : Statement (.fadeEnd i) := by simp +contextual [Statement, Instr.window, Instr.opcode]
theorem calibrationStepEnd : Statement .calibrationStepEnd := by simp +contextual [Statement, Instr.window, Instr.opcode]
theorem senseConversionSlot (reading : BitVec 12) : Statement (.senseConversionSlot reading) :=
  by simp +contextual [Statement, Instr.window, Instr.opcode]
theorem safetyInputSample (asserted : Bool) : Statement (.safetyInputSample asserted) :=
  by simp +contextual [Statement, Instr.window, Instr.opcode]
theorem frameTransmissionEnd : Statement .frameTransmissionEnd :=
  by simp +contextual [Statement, Instr.window, Instr.opcode]
theorem frameReceived (bytes : List Byte) : Statement (.frameReceived bytes) :=
  by simp +contextual [Statement, Instr.window, Instr.opcode]
theorem replyTimerExpiry : Statement .replyTimerExpiry := by simp +contextual [Statement, Instr.window, Instr.opcode]
theorem stationTimerExpiry (k : StationId) : Statement (.stationTimerExpiry k) :=
  by simp +contextual [Statement, Instr.window, Instr.opcode]
theorem resultWindow (p : PortId) (bytes : List Byte) : Statement (.resultWindow p bytes) :=
  by simp +contextual [Statement, Instr.window, Instr.opcode]
theorem executeWindow (p : PortId) (bytes : List Byte) : Statement (.executeWindow p bytes) :=
  by simp +contextual [Statement, Instr.window, Instr.opcode]
theorem invalidOpcode (p : PortId) (opcode : Byte) (params : List Byte) : Statement (.invalidOpcode p opcode params) :=
  by simp +contextual [Statement, Instr.window, Instr.opcode]
theorem readScreen (p : PortId) (params : List Byte) : Statement (.readScreen p params) :=
  by simp +contextual [Statement, Instr.window, Instr.opcode]
theorem readMeters (p : PortId) (params : List Byte) : Statement (.readMeters p params) :=
  by simp +contextual [Statement, Instr.window, Instr.opcode]
theorem readFeed (p : PortId) (params : List Byte) : Statement (.readFeed p params) :=
  by simp +contextual [Statement, Instr.window, Instr.opcode]
theorem readAlarms (p : PortId) (params : List Byte) : Statement (.readAlarms p params) :=
  by simp +contextual [Statement, Instr.window, Instr.opcode]
theorem ackAlarm (p : PortId) (params : List Byte) : Statement (.ackAlarm p params) :=
  by simp +contextual [Statement, Instr.window, Instr.opcode]
theorem readCues (p : PortId) (params : List Byte) : Statement (.readCues p params) :=
  by simp +contextual [Statement, Instr.window, Instr.opcode]
theorem locate (p : PortId) (params : List Byte) : Statement (.locate p params) :=
  by simp +contextual [Statement, Instr.window, Instr.opcode]
theorem readLoop (p : PortId) (params : List Byte) : Statement (.readLoop p params) :=
  by simp +contextual [Statement, Instr.window, Instr.opcode]
theorem readPool (p : PortId) (params : List Byte) : Statement (.readPool p params) :=
  by simp +contextual [Statement, Instr.window, Instr.opcode]
theorem readNotice (p : PortId) (params : List Byte) : Statement (.readNotice p params) :=
  by simp +contextual [Statement, Instr.window, Instr.opcode]
theorem collect (p : PortId) (params : List Byte) : Statement (.collect p params) :=
  by simp +contextual [Statement, Instr.window, Instr.opcode]
theorem wake (p : PortId) (params : List Byte) : Statement (.wake p params) :=
  by simp +contextual [Statement, Instr.window, Instr.opcode]
theorem sleep (p : PortId) (params : List Byte) : Statement (.sleep p params) :=
  by simp +contextual [Statement, Instr.window, Instr.opcode]
theorem startShow (p : PortId) (params : List Byte) : Statement (.startShow p params) :=
  by simp +contextual [Statement, Instr.window, Instr.opcode]
theorem endShow (p : PortId) (params : List Byte) : Statement (.endShow p params) :=
  by simp +contextual [Statement, Instr.window, Instr.opcode]
theorem resume (p : PortId) (params : List Byte) : Statement (.resume p params) :=
  by simp +contextual [Statement, Instr.window, Instr.opcode]
theorem setLevel (p : PortId) (params : List Byte) : Statement (.setLevel p params) :=
  by simp +contextual [Statement, Instr.window, Instr.opcode]
theorem fade (p : PortId) (params : List Byte) : Statement (.fade p params) :=
  by simp +contextual [Statement, Instr.window, Instr.opcode]
theorem selectSource (p : PortId) (params : List Byte) : Statement (.selectSource p params) :=
  by simp +contextual [Statement, Instr.window, Instr.opcode]
theorem selectPreset (p : PortId) (params : List Byte) : Statement (.selectPreset p params) :=
  by simp +contextual [Statement, Instr.window, Instr.opcode]
theorem setLock (p : PortId) (params : List Byte) : Statement (.setLock p params) :=
  by simp +contextual [Statement, Instr.window, Instr.opcode]
theorem setTrim (p : PortId) (params : List Byte) : Statement (.setTrim p params) :=
  by simp +contextual [Statement, Instr.window, Instr.opcode]
theorem clearFeed (p : PortId) (params : List Byte) : Statement (.clearFeed p params) :=
  by simp +contextual [Statement, Instr.window, Instr.opcode]
theorem sendOrder (p : PortId) (params : List Byte) : Statement (.sendOrder p params) :=
  by simp +contextual [Statement, Instr.window, Instr.opcode]
theorem setLine (p : PortId) (params : List Byte) : Statement (.setLine p params) :=
  by simp +contextual [Statement, Instr.window, Instr.opcode]
theorem calibrate (p : PortId) (params : List Byte) : Statement (.calibrate p params) :=
  by simp +contextual [Statement, Instr.window, Instr.opcode]
theorem abort (p : PortId) (params : List Byte) : Statement (.abort p params) :=
  by simp +contextual [Statement, Instr.window, Instr.opcode]
theorem openLoad (p : PortId) (params : List Byte) : Statement (.openLoad p params) :=
  by simp +contextual [Statement, Instr.window, Instr.opcode]
theorem parcel (p : PortId) (params : List Byte) : Statement (.parcel p params) :=
  by simp +contextual [Statement, Instr.window, Instr.opcode]
theorem closeLoad (p : PortId) (params : List Byte) : Statement (.closeLoad p params) :=
  by simp +contextual [Statement, Instr.window, Instr.opcode]
theorem store (p : PortId) (params : List Byte) : Statement (.store p params) :=
  by simp +contextual [Statement, Instr.window, Instr.opcode]
theorem storeWriteComplete (matched retirementTook : Bool) : Statement (.storeWriteComplete matched retirementTook) :=
  by simp +contextual [Statement, Instr.window, Instr.opcode]
theorem recallStored (p : PortId) (params : List Byte) : Statement (.recallStored p params) :=
  by simp +contextual [Statement, Instr.window, Instr.opcode]
theorem recallReadComplete : Statement .recallReadComplete := by simp +contextual [Statement, Instr.window, Instr.opcode]
theorem wipeScreen (p : PortId) (params : List Byte) : Statement (.wipeScreen p params) :=
  by simp +contextual [Statement, Instr.window, Instr.opcode]
theorem eraseComplete : Statement .eraseComplete := by simp +contextual [Statement, Instr.window, Instr.opcode]
theorem commission (p : PortId) (params : List Byte) : Statement (.commission p params) :=
  by simp +contextual [Statement, Instr.window, Instr.opcode]
theorem portReset (p : PortId) (rest : List Byte) : Statement (.portReset p rest) :=
  by simp +contextual [Statement, Instr.window, Instr.opcode]
theorem commandPhaseEnd (p : PortId) (bytes : List Byte) : Statement (.commandPhaseEnd p bytes) :=
  by simp +contextual [Statement, Instr.window, Instr.opcode]
theorem samplePeriod : Statement .samplePeriod := by simp +contextual [Statement, Instr.window, Instr.opcode]

end Sys2Proof.Laws.PortCommandHasOpcode
end

