-- ==== Sys2Proof/WellFormed.lean ====
section
/-!
DEFINITION. Which command terms stand for something the outside world can do: the lengths that the rules fix.
exec is total on every term; an ill-formed one stands for no event, and the rules it reaches ignore it.
-/

namespace Sys2Proof

/-- The length in bytes of a loop frame, from the type in its byte 1; 4 for a type not in the table (R196). -/
def frameLength (byte1 : Byte) : Nat :=
  match byte1.toNat % 16 with
  | 1 => 8
  | 2 => 7
  | 8 => 6
  | _ => 4

/-- A received loop frame: start marker first, and the length its type announces (R196). -/
def frameWellFormed (bytes : List Byte) : Bool :=
  match bytes with
  | marker :: byte1 :: _ => marker == 0xA5#8 && bytes.length == frameLength byte1
  | _ => false

/-- The checks of a command's operands: sixteen slots in a word-frame (R1), a whole frame on the loop (R196), at least
one whole byte in a window that ends in COMMAND (R172). -/
def Instr.wellFormed : Instr → Bool
  | .wordFrameArrival _ words => words.length == 16
  | .frameReceived bytes => frameWellFormed bytes
  | .commandPhaseEnd _ bytes => !bytes.isEmpty
  | _ => true

end Sys2Proof
end

