-- ==== Sys2Proof/Tests/Slice0.lean ====
section
/-! SUPPORT. Tests: ill-formed terms, single steps against the spec's worked cases, and for every obligation with hypotheses a
concrete state and operands that meet them. -/

namespace Sys2Proof.Tests

set_option Elab.async false

open Sys2Proof Sys2Proof.Machine

/-! ### Helpers -/

/-- The state a step leaves. -/
def after (c : Instr) (s : State) : State :=
  match exec c s with
  | .next t => t
  | .fault _ => s
  | .refused _ => s

/-- The state with port P1 executing a window. -/
def issue (s : State) (bytes : List Byte) : State :=
  s.modPort 0 fun q => { q with phase := .execute, command := bytes }

/-- Reset, with port P1 executing a window. -/
def issued (bytes : List Byte) : State := issue .reset bytes

/-- Reset, with a screen's boundary due. -/
def due (s : State) (i : ScreenId) : State := s.modPath i fun p => { p with index := 480 }

/-- The reason of the result that P1 shows. -/
def reason (s : State) : Option Reason := (s.port 0).result.map ResultRecord.reason

def withEntries (s : State) (es : List Entry) : State := s.withCompletions ⟨es, 200, 7⟩

/-! ### Well-formedness: one term that each check refuses -/

theorem test_frame_of_fifteen_words_is_ill_formed :
    (Instr.wordFrameArrival 0 (List.replicate 15 0#24)).wellFormed = false := by decide

theorem test_frame_of_sixteen_words_is_well_formed :
    (Instr.wordFrameArrival 0 (List.replicate 16 0#24)).wellFormed = true := by decide

theorem test_loop_frame_without_marker_is_ill_formed :
    (Instr.frameReceived [0x00#8, 0x18#8, 0#8, 0#8, 0#8, 0#8]).wellFormed = false := by decide

theorem test_short_tally_is_ill_formed :
    (Instr.frameReceived [0xA5#8, 0x18#8, 0#8, 0#8, 0#8]).wellFormed = false := by decide

theorem test_empty_window_is_ill_formed : (Instr.commandPhaseEnd 0 []).wellFormed = false := by decide

/-! ### Single steps -/

/-- R41's reference values at the ends and in the middle of the table. -/
theorem test_gain_reference_values :
    gain 120 = 4174456 ∧ gain 0 = 1048576 ∧ gain (-30) = 742335 ∧ gain (-905) = 31 ∧ gain (-959) = 17 ∧ gain (-960) = 0 := by
  decide +kernel

/-- 3.12: the surround sum 742,335,000,000 renders 707,946. -/
theorem test_render_rounds_half_up :
    roundHalfUp 20 (termSum (fun c => if c = 0 then 2000000 else 1000000) 0 [⟨0, -30, false⟩, ⟨1, -30, true⟩]) = 707946 := by
  decide +kernel

/-- 3.12: the level stage gives 1,064,440, the section 1,064,220. -/
theorem test_level_and_section :
    levelStage (-60) 2123837 = (1064440, false) ∧
      (Biquad.run ⟨⟨2097152, 2097152, 0, 0, 0⟩, 1064000, 0, 0, 0⟩ 1064440).2 = (1064220, false) := by
  decide +kernel

/-- 3.12: a RAMP_OUT block at n = 100 gives 842,507, and −842,507 for the negated sample. -/
theorem test_output_truncates_toward_zero :
    outputStage [480, 480, 480, 480, 380] 100 1064220 none = 842507 ∧
      outputStage [480, 480, 480, 480, 380] 100 (-1064220) none = -842507 := by
  decide

/-- 3.12: both reports of the steady signal are −180. -/
theorem test_reports : peakReport 1064220 = -180 ∧ powerReport 17280649 = -180 := by decide +kernel

/-- 3.14: the fader of blocks 101 to 103. -/
theorem test_fade_progress :
    faderNext 0 (.fade 0 (-100) 3 0) = (-33, .fade 0 (-100) 3 1) ∧ takeFade (-33) 0 4 = .fade (-33) 0 4 0 ∧
      faderNext (-33) (.fade (-33) 0 4 0) = (-25, .fade (-33) 0 4 1) ∧
      faderNext (-9) (.fade (-33) 0 4 3) = (0, .hold) := by
  decide

/-- 3.4: fader −60, ceiling −100, offset −30, trim +20, HOT give −170. -/
theorem test_feed_level : feedLevel ⟨-60, -100, -30, Tab.all 20, Tab.all 20, Tab.all true⟩ 20 true = -170 := by decide

/-- 5.13: the expected sense of a peak of 200,000 is 1,507. -/
theorem test_expected_sense : expectedSense (-300) 2000 200000 = 1507 := by decide +kernel

/-- 5.15: the fourth segment lowers the ceiling, the third keeps it, the second would raise it above 0. -/
theorem test_ceiling :
    nextCeiling (-180) 110596153600 0 = -5 ∧ nextCeiling (-180) 82947115200 0 = 0 ∧
      nextCeiling (-180) 55298076800 0 = 0 ∧ nextCeiling (-180) 0 (-15) = -10 := by
  decide +kernel

/-- R196: the register of x^16 + x^12 + x^5 + 1 from 0xFFFF gives 0x29B1 for the digits 1 to 9, its known check value. -/
theorem test_crc : crc [0x31#8, 0x32#8, 0x33#8, 0x34#8, 0x35#8, 0x36#8, 0x37#8, 0x38#8, 0x39#8] = 0x29B1#16 := by
  decide +kernel

/-- R1: the first word-frame takes the receiver out of ABSENT. -/
theorem test_first_frame_searches :
    ((after (.wordFrameArrival 2 (List.replicate 16 5#24)) .reset).screen 2).lane.stream = .search := by decide +kernel

/-- R2: a sample period moves the sample index, and waits at a boundary. -/
theorem test_sample_period :
    ((after .samplePeriod .reset).screen 3).path.index = 1 ∧
      ((after .samplePeriod (due .reset 1)).screen 3).path.index = 0 := by
  decide +kernel

/-- R124, R125: SLEEP darkens an idle screen, WAKE returns it, and WAKE again is refused. -/
theorem test_sleep_and_wake :
    let s := after (.sleep 0 [1#8]) (issued [0x11#8, 1#8])
    let t := after (.wake 0 [1#8]) (issue s [0x10#8, 1#8])
    (s.control 0).state = .dark ∧ (t.control 0).state = .idle ∧
      reason (after (.wake 0 [1#8]) (issue t [0x10#8, 1#8])) = some .wrongState := by
  decide +kernel

/-- R126: a show starts WAITING with its lock as lock-at-start says. -/
theorem test_start_show :
    let t := after (.startShow 0 [2#8]) (issued [0x12#8, 2#8])
    (t.control 1).state = .inShow ∧ (t.control 1).clock = .waiting ∧ (t.control 1).lock = false := by
  decide +kernel

/-- R129: SET LEVEL clamps at +60. -/
theorem test_set_level_clamps :
    ((after (.setLevel 0 [1#8, 0x01#8, 0x00#8]) (issued [0x15#8, 1#8, 0x01#8, 0x00#8])).control 0).move = .setNext 60 := by
  decide +kernel

/-- 10.9: the counter wraps from 255 to 1. -/
theorem test_ticket_wraps :
    (takeEntry (State.reset.withCompletions ⟨[], 255, 0⟩) 0 .store).completions.counter = 1 := by decide

/-- 10.8: the 129th parcel of 32 bytes overflows the staging at 4,128 bytes sent. -/
theorem test_parcel_overflows :
    (Staging.opened .renderTable (List.replicate 4096 0#8) 4096).append (List.replicate 32 0#8) =
      .overflowed .renderTable 4128 := by
  decide +kernel

/-- 7.11: the seek back from 2,400 to 600 leaves cues 0 to 2 taken, the fader at −40 and a request for preset 0. -/
theorem test_seek_back :
    let q (t : Nat) (a : CueAction) (taken : Bool) : Cue := ⟨t, a, true, taken, .none, 1⟩
    let cues := [q 0 (.lineSet 2) true, q 0 (.fade (-40) 300) true, q 500 (.order 2 5 0) true, q 1000 (.preset 1) true,
      q 2000 (.linePulse 3 50) true, q 3000 (.fade (-100) 200) false, q 3000 (.lineClear 2) false]
    let s := (State.reset.modControl 0 fun c =>
      { c with state := .inShow, cues := cues, opening := some ⟨0, 0, .program, [(2, false)], false⟩
               clock := .tracking 600, fader := -40 }).modEqualiser 0 fun e => { e with active := 1 }
    let t := chase s 0 (some 2400) 600
    (t.control 0).cues.map Cue.taken = [true, true, true, false, false, false, false] ∧
      (t.control 0).move = .setNext (-40) ∧ ((t.equaliser 0).pending.map Request.preset) = some 0 ∧
      (t.line 2).flag = true := by
  decide +kernel

/-- 7.12: the clock freezes at the boundary after the count has reached the limit. -/
theorem test_free_run_limit :
    clockMove (.freeRun 4299 299) 300 none = (.freeRun 4300 300, .advance 4300) ∧
      clockMove (.freeRun 4300 300) 300 none = (.frozen 4300, .none) ∧
      clockMove (.freeRun 4120 120) 300 (some (.streamLocked 4125)) = (.tracking 4125, .chase 4120 4125) := by
  decide

/-- R48: a chain of no section passes its input. -/
theorem test_empty_chain : (runChain Pool.reset.slots [] 77).2 = (77, 0) := by decide +kernel

/-- 8.12: with a retry limit of 3, a fourth unanswered request takes the station DOWN. -/
theorem test_station_goes_down :
    let s := (State.reset.modStation 4 fun r => { r with state := .up, retry := 3 }).modLoop fun l =>
      { l with state := .awaiting 4 0 }
    ((after .replyTimerExpiry s).station 4).state = .down := by
  decide +kernel

/-- R166: one sample recognises nothing, the second asserts the input and mutes every screen. -/
theorem test_safety_input :
    let s := after (.safetyInputSample true) .reset
    let t := after (.safetyInputSample true) s
    s.safety.asserted = false ∧ t.safety.asserted = true ∧ (t.control 3).evacuationMute = true := by
  decide +kernel

/-- R188: from an empty store the end of the stabilisation gives the reset values. -/
theorem test_start_up_from_an_empty_store :
    let t := after (.stabilisationEnd false false) (after .powerOn .reset)
    t.power = .running ∧ t.screens = State.reset.screens ∧ t.loop = State.reset.loop ∧ t.ports = State.reset.ports ∧
      t.alarms = State.reset.alarms ∧ t.pool.free = State.reset.pool.free := by
  decide +kernel

/-- R188: QUIET START brings every screen up in DARK. -/
theorem test_quiet_start :
    ((after (.stabilisationEnd false true) (after .powerOn .reset)).control 0).state = .dark := by decide +kernel

/-- The core's step takes the front command of the queue. -/
theorem test_step_takes_the_front :
    (match step (State.reset.withQueue [.safetyInputSample true, .samplePeriod]) with
      | .next t => t.pending == [.samplePeriod] && t.safety.previous == some true
      | .fault _ => false
      | .refused _ => false) = true := by
  decide +kernel


/-! ### Witnesses: states and operands that meet the hypotheses of each obligation -/

theorem witness_StepRunsTheFrontCommand : State.reset.pending = [] := rfl

theorem witness_WindowNamesItsCommand :
    decodeWindow 0 [0x10#8, 1#8] = some (.wake 0 [1#8]) ∧ (Instr.wake 0 [1#8]).window = some (0, [0x10#8, 1#8]) ∧
      (Instr.invalidOpcode 0 0x0C#8 []).window = some (0, [0x0C#8]) ∧ parameterCounts 0x0C#8 = none ∧ 0x0C#8 ≠ 0xFF#8 := by
  decide

theorem witness_ExecutedCommandLeavesOneResult :
    (Instr.wake 0 [1#8]).window = some (0, [0x10#8, 1#8]) ∧ 0x10#8 ≠ 0xFF#8 ∧
      Executing (issued [0x10#8, 1#8]) 0 0x10#8 [1#8] ∧ Executing (issued [0x0C#8]) 0 0x0C#8 [] ∧
      parameterCounts 0x0C#8 = none ∧ Executing (issued [0x22#8, 0#8, 0#8]) 0 0x22#8 [0#8, 0#8] ∧
      Executing (issued [0x1C#8, 0#8, 0#8, 0#8, 0#8]) 0 0x1C#8 [0#8, 0#8, 0#8, 0#8] := by
  decide +kernel

theorem witness_WindowJudgementRefuses :
    (Instr.wake 0 []).window = some (0, [0x10#8]) ∧ parameterCounts 0x10#8 = some [1] ∧ ([] : List Byte).length ∉ [1] ∧
      Executing (issued [0x10#8]) 0 0x10#8 [] ∧ parameterCounts 0x00#8 = none ∧ Executing (issued [0x00#8]) 0 0x00#8 [] := by
  decide +kernel

/-- Windows with one parameter just outside its range (R198). -/
theorem witness_WindowJudgementRefuses_ranges :
    ∀ w ∈ ([[0x01, 0], [0x02, 5], [0x03, 1, 0], [0x03, 4, 17], [0x04, 64], [0x05, 1], [0x05, 0, 0, 0], [0x05, 15, 0, 0],
        [0x05, 4, 1, 0], [0x05, 5, 1, 1], [0x05, 10, 9, 0], [0x05, 11, 1, 0], [0x06, 0, 255], [0x07, 1, 3, 0, 0, 0], [0x0A, 5],
        [0x10, 0], [0x11, 5], [0x12, 0], [0x13, 5], [0x14, 5], [0x15, 0, 0, 0], [0x16, 5, 0, 0, 0, 0], [0x17, 1, 3], [0x18, 1, 4],
        [0x18, 5, 3], [0x19, 1, 2], [0x1A, 1, 17, 0, 0], [0x1B, 1, 0], [0x1C, 0, 0, 0, 0], [0x1C, 16, 0, 0, 0],
        [0x1C, 1, 128, 0, 0], [0x1D, 17, 0, 0, 1, 1], [0x1D, 1, 3, 0, 1, 1], [0x1D, 1, 0, 0, 0, 1], [0x1D, 1, 0, 3, 0xE9, 1],
        [0x1D, 1, 0, 0, 1, 0], [0x1E, 5, 0, 1], [0x1E, 1, 0, 0], [0x20, 0], [0x20, 8], [0x23, 5], [0x24, 5, 0], [0x24, 0, 1],
        [0x24, 1, 8], [0x25, 0], [0x26, 5]] : List (List Byte)),
      let params := w.tail
      outOfRange (w.headD 0#8) params = true ∧ (parameterCounts (w.headD 0#8)).any (fun n => params.length ∈ n) = true ∧
        (decodeWindow 0 w).bind Instr.window = some (0, w) ∧ Executing (issued w) 0 (w.headD 0#8) params := by
  decide +kernel

/-- Parameters at the ends of their ranges are within them. -/
theorem test_ranges_reach_their_ends :
    ∀ w ∈ ([[0x03, 4, 16], [0x04, 63], [0x05, 0], [0x05, 4, 4, 16], [0x05, 8, 4, 0], [0x05, 10, 8, 0], [0x05, 14, 0, 0],
        [0x07, 4, 2, 0, 0, 0], [0x14, 0], [0x14, 4], [0x17, 4, 2], [0x18, 4, 3], [0x19, 4, 1], [0x1C, 15, 127, 0, 0],
        [0x1D, 16, 2, 3, 0xE8, 4], [0x1E, 4, 0x80, 0], [0x20, 7], [0x23, 0], [0x24, 0, 0], [0x24, 4, 7]] : List (List Byte)),
      outOfRange (w.headD 0#8) w.tail = false := by
  decide +kernel

theorem witness_CommandOutsideExecuteDoesNothing :
    Running State.reset ∧ (State.reset.port 0).phase ≠ .execute ∧ (issued [0x10#8, 2#8]).power = .running ∧
      ((issued [0x10#8, 2#8]).port 0).command ≠ [0x10#8, 1#8] ∧ 0x10#8 ≠ 0xFF#8 := by
  decide +kernel

/-- Reset with P1 in RESULT. -/
def shown : State := placeResult .reset 0 ⟨0x10#8, .normal, .ok, [1#8]⟩

/-- Reset with P1 in COMMAND. -/
def commanded : State := State.reset.modPort 0 fun q => { q with phase := .command }

theorem witness_WindowsMoveThePhase :
    Running State.reset ∧ (State.reset.port 0).phase = .ready ∧ Running commanded ∧ (commanded.port 0).phase = .command ∧
      0x10#8 ≠ 0xFF#8 ∧ Running shown ∧ (shown.port 0).phase = .result ∧
      (shown.port 0).result = some ⟨0x10#8, .normal, .ok, [1#8]⟩ ∧ ([] : List Byte).head? ≠ some 0xFF#8 ∧
      Running (issued [0x10#8, 1#8]) ∧ ((issued [0x10#8, 1#8]).port 0).phase = .execute := by
  decide +kernel

theorem witness_PortResetLeavesThePortReady :
    Running State.reset ∧ (State.reset.port 0).phase = .ready ∧ Running shown ∧ (shown.port 0).phase = .result ∧
      Running (issued [0x10#8, 1#8]) ∧ ((issued [0x10#8, 1#8]).port 0).phase = .execute ∧ Running commanded ∧
      (commanded.port 0).phase = .command := by
  decide +kernel

/-- An entry of P1 that is DONE, and one that runs. -/
def doneEntry : Entry := ⟨255, 0, .store, some ⟨.normal, .ok, [], 3⟩⟩
def runningEntry (kind : OperationKind) : Entry := ⟨1, 0, kind, none⟩

theorem witness_CollectTakesTheFirstDone :
    let s := issued [0x0B#8]
    let t := withEntries s [runningEntry .store, doneEntry]
    (Executing s 0 0x0B#8 [] ∧ CompletionsSound s ∧ ∀ e ∈ s.completions.entries, e.owner = 0 → e.done = none) ∧
      Executing t 0 0x0B#8 [] ∧ CompletionsSound t ∧ doneEntry ∈ t.completions.entries ∧ doneEntry.owner = 0 ∧
      doneEntry.done = some ⟨.normal, .ok, [], 3⟩ ∧
      ∀ e' ∈ t.completions.entries, ∀ d', e'.owner = 0 → e'.done = some d' → e' = doneEntry ∨ 3 < d'.order := by
  refine ⟨⟨by decide +kernel, by unfold CompletionsSound; decide +kernel, by decide +kernel⟩, by decide +kernel,
    by unfold CompletionsSound; decide +kernel, by decide +kernel, rfl, rfl, ?_⟩
  intro e' he' d' _ hd
  have h : e' = runningEntry .store ∨ e' = doneEntry := by simpa [withEntries, State.withCompletions] using he'
  rcases h with rfl | rfl
  · cases hd
  · exact .inl rfl

/-- A list of one cue. -/
def oneCue : State := State.reset.modControl 0 fun c => { c with cues := [⟨5, .lock true, true, false, .none, 0⟩] }

theorem witness_ReadingChangesNothing :
    Executing (issued [0x01#8, 4#8]) 0 0x01#8 [numberParam (3 : ScreenId)] ∧
      Executing (issued [0x03#8, 1#8, 16#8]) 0 0x03#8 [numberParam (0 : ScreenId), numberParam (15 : FeedId)] ∧
      (63#8).toNat ≤ 63 ∧ Executing (issued [0x04#8, 63#8]) 0 0x04#8 [63#8] ∧
      Executing (issued [0x06#8, 1#8, 255#8]) 0 0x06#8 [numberParam (0 : ScreenId), 255#8] ∧
      Executing (issued [0x08#8]) 0 0x08#8 [] ∧ Executing (issued [0x09#8]) 0 0x09#8 [] ∧
      Executing (issue oneCue [0x07#8, 1#8, 2#8, 0#8, 0#8, 5#8]) 0 0x07#8 [numberParam (0 : ScreenId), 2#8, 0#8, 0#8, 5#8] ∧
      Executing (issue oneCue [0x07#8, 1#8, 1#8, 0#8, 0#8, 4#8]) 0 0x07#8 [numberParam (0 : ScreenId), 1#8, 0#8, 0#8, 4#8] ∧
      ((issue oneCue [0x07#8, 1#8, 2#8, 0#8, 0#8, 5#8]).control 0).cues[0]? = some ⟨5, .lock true, true, false, .none, 0⟩ ∧
      ((issue oneCue [0x07#8, 1#8, 2#8, 0#8, 0#8, 5#8]).control 0).cues.length = 1 ∧
      (∀ q ∈ ((issue oneCue [0x07#8, 1#8, 1#8, 0#8, 0#8, 4#8]).control 0).cues, ¬ q.time ≤ 4) := by
  decide +kernel

theorem witness_ReadNoticeAndMetersEmpty :
    Executing (issued [0x0A#8, 1#8]) 0 0x0A#8 [numberParam (0 : ScreenId)] ∧
      Executing (issued [0x02#8, 4#8]) 0 0x02#8 [numberParam (3 : ScreenId)] := by
  decide +kernel

theorem witness_OperatorCommandsTakeEffect :
    Covers (issued [0x15#8, 1#8, 0x80#8, 0#8]) 0 0 ∧
      Executing (issued [0x15#8, 1#8, 0x80#8, 0#8]) 0 0x15#8 [numberParam (0 : ScreenId), 0x80#8, 0#8] ∧
      Executing (issued [0x16#8, 1#8, 0#8, 60#8, 0#8, 0#8]) 0 0x16#8 [numberParam (0 : ScreenId), 0#8, 60#8, 0#8, 0#8] ∧
      (State.reset.control 0).lock = false ∧
      Executing (issued [0x17#8, 1#8, 2#8]) 0 0x17#8 [numberParam (0 : ScreenId), BitVec.ofNat 8 (sourceCode .mute)] ∧
      Executing (issued [0x19#8, 1#8, 1#8]) 0 0x19#8 [numberParam (0 : ScreenId), BitVec.ofNat 8 true.toNat] := by
  decide +kernel

/-- A screen in DARK, one with a held SLEEP in a switch, and one in SHOW. -/
def dark (s : State) : State := s.modControl 0 fun c => { c with state := .dark }
def sleepHeld (s : State) : State :=
  (s.modControl 0 fun c => { c with sleepHeld := true }).modEqualiser 0 fun e => { e with switch := .cutIn ⟨1, .openingReturn⟩ }
def inShow (s : State) : State := s.modControl 0 fun c => { c with state := .inShow, clock := .waiting }

theorem witness_WakeAndSleepMoveTheScreen :
    let wakes (s : State) : Prop := Covers (issue s [0x10#8, 1#8]) 0 0 ∧
      Executing (issue s [0x10#8, 1#8]) 0 0x10#8 [numberParam (0 : ScreenId)]
    let sleeps (s : State) : Prop := Executing (issue s [0x11#8, 1#8]) 0 0x11#8 [numberParam (0 : ScreenId)]
    (wakes (dark .reset) ∧ ((dark .reset).control 0).state = .dark) ∧
      (wakes (sleepHeld .reset) ∧ ((sleepHeld .reset).control 0).state = .idle ∧
        ((sleepHeld .reset).control 0).sleepHeld = true) ∧
      (wakes (inShow .reset) ∧ ((inShow .reset).control 0).state = .inShow) ∧ wakes .reset ∧
      (State.reset.control 0).sleepHeld = false ∧ sleeps (dark .reset) ∧ sleeps (sleepHeld .reset) ∧
      ((sleepHeld .reset).equaliser 0).switch ≠ .none ∧ sleeps .reset ∧ (State.reset.equaliser 0).switch = .none ∧
      sleeps (inShow .reset) := by
  decide +kernel

theorem witness_ShowStartsAndEnds :
    let s := issued [0x12#8, 1#8]
    let t := issue (inShow .reset) [0x13#8, 1#8]
    (Covers s 0 0 ∧ Executing s 0 0x12#8 [numberParam (0 : ScreenId)] ∧ s.safety.asserted = false ∧
      (s.control 0).evacuationMute = false ∧ (s.control 0).state = .idle ∧ (s.control 0).sleepHeld = false) ∧
      Covers t 0 0 ∧ Executing t 0 0x13#8 [numberParam (0 : ScreenId)] ∧ (t.control 0).state = .inShow := by
  decide +kernel

theorem witness_ShowStartsAndEnds_refused :
    (∀ s ∈ [dark .reset, inShow .reset, sleepHeld .reset],
      Executing (issue s [0x12#8, 1#8]) 0 0x12#8 [numberParam (0 : ScreenId)] ∧ s.safety.asserted = false ∧
        (s.control 0).evacuationMute = false ∧ ((s.control 0).state ≠ .idle ∨ (s.control 0).sleepHeld = true)) ∧
      ∀ s ∈ [dark .reset, .reset], Executing (issue s [0x13#8, 1#8]) 0 0x13#8 [numberParam (0 : ScreenId)] ∧
        (s.control 0).state ≠ .inShow := by
  decide +kernel

/-- A screen muted by an evacuation. -/
def muted : State := State.reset.modControl 0 fun c => { c with evacuationMute := true }

/-- The safety input asserted. -/
def asserted (s : State) : State := { s with safety := ⟨true, some true⟩ }

theorem witness_ResumeClearsMuteAndSuspension :
    let s := issue muted [0x14#8, 1#8]
    s.safety.asserted = false ∧ Executing s 0 0x14#8 [numberParam (0 : ScreenId)] ∧ Covers s 0 0 ∧
      (s.control 0).evacuationMute = true ∧ Executing (issue muted [0x14#8, 0#8]) 0 0x14#8 [0#8] ∧
      Executing (issued [0x14#8, 1#8]) 0 0x14#8 [numberParam (0 : ScreenId)] ∧
      (State.reset.control 0).evacuationMute = false ∧ (State.reset.control 0).suspension = none := by
  decide +kernel

theorem witness_EvacuationRefuses :
    let s := asserted .reset
    Covers s 0 0 ∧ s.safety.asserted = true ∧ Executing (issue s [0x12#8, 1#8]) 0 0x12#8 [numberParam (0 : ScreenId)] ∧
      Executing (issue s [0x14#8, 1#8]) 0 0x14#8 [numberParam (0 : ScreenId)] ∧
      Executing (issue s [0x14#8, 0#8]) 0 0x14#8 [0#8] ∧ (0#8 ++ 1#8 : BitVec 16) ≠ 0#16 ∧
      Executing (issue s [0x1E#8, 1#8, 0#8, 1#8]) 0 0x1E#8 [numberParam (0 : ScreenId), 0#8, 1#8] := by
  decide +kernel

/-- A screen that is still muted after the safety input has been released. -/
theorem witness_EvacuationRefuses_released :
    Covers muted 0 0 ∧ muted.safety.asserted = false ∧ (muted.control 0).evacuationMute = true ∧
      Executing (issue muted [0x12#8, 1#8]) 0 0x12#8 [numberParam (0 : ScreenId)] ∧
      Executing (issue muted [0x1E#8, 1#8, 0#8, 1#8]) 0 0x1E#8 [numberParam (0 : ScreenId), 0#8, 1#8] := by
  decide +kernel

/-- P1 without any right. -/
def rightless (bytes : List Byte) : State := issue (State.reset.modPort 0 fun q => { q with access := ⟨0#4, false⟩ }) bytes

theorem witness_ScreenRightIsNeeded :
    let n := numberParam (0 : ScreenId)
    ¬ Covers (rightless []) 0 0 ∧ ¬ HasHouse (rightless []) 0 ∧
      (∀ op ∈ [0x10#8, 0x11#8, 0x12#8, 0x13#8, 0x14#8, 0x23#8, 0x25#8, 0x26#8], Executing (rightless [op, n]) 0 op [n]) ∧
      Executing (rightless [0x15#8, n, 0#8, 0#8]) 0 0x15#8 [n, 0#8, 0#8] ∧
      Executing (rightless [0x16#8, n, 0#8, 0#8, 0#8, 0#8]) 0 0x16#8 [n, 0#8, 0#8, 0#8, 0#8] ∧
      (2#8).toNat ≤ 2 ∧ Executing (rightless [0x17#8, n, 2#8]) 0 0x17#8 [n, 2#8] ∧
      (3#8).toNat ≤ 3 ∧ Executing (rightless [0x18#8, n, 3#8]) 0 0x18#8 [n, 3#8] ∧
      (1#8).toNat ≤ 1 ∧ Executing (rightless [0x19#8, n, 1#8]) 0 0x19#8 [n, 1#8] ∧
      Executing (rightless [0x1A#8, n, numberParam (15 : FeedId), 0#8, 0#8]) 0 0x1A#8 [n, numberParam (15 : FeedId), 0#8, 0#8] ∧
      Executing (rightless [0x1B#8, n, numberParam (15 : FeedId)]) 0 0x1B#8 [n, numberParam (15 : FeedId)] ∧
      Executing (rightless [0x1E#8, n, 0#8, 1#8]) 0 0x1E#8 [n, 0#8, 1#8] ∧
      (7#8).toNat ≤ 7 ∧ Executing (rightless [0x24#8, n, 7#8]) 0 0x24#8 [n, 7#8] := by
  decide +kernel

theorem witness_ScreenRightIsNeeded_lines :
    let l := numberParam (15 : LineId)
    let t := numberParam (3 : ScreenId)
    let owned := (rightless [0x1D#8, l, 2#8, 3#8, 0xE8#8, t]).modLine 15 fun r => { r with owner := .screen 0 }
    let w := rightless [0x1D#8, l, 0#8, 0#8, 1#8, t]
    (¬ Covers owned 0 0 ∧ (owned.line 15).owner = .screen 0 ∧ (3#8 ++ 0xE8#8 : BitVec 16).toNat = 1000 ∧
        Executing owned 0 0x1D#8 [l, 2#8, 3#8, 0xE8#8, t]) ∧
      (alarmKindOfCode (3#8).toNat = some .dead ∧ scopeOf .dead (1#8).toNat (16#8).toNat = some (.feed 0 15) ∧
        (Scope.feed 0 15).screen? = some 0 ∧ Executing (rightless [0x05#8, 3#8, 1#8, 16#8]) 0 0x05#8 [3#8, 1#8, 16#8]) ∧
      ¬ HasHouse w 0 ∧ (w.line 15).owner = .house ∧ Executing w 0 0x1D#8 [l, 0#8, 0#8, 1#8, t] ∧
      Executing (rightless [0x1C#8, 15#8, 127#8, 0#8, 0#8]) 0 0x1C#8 [15#8, 127#8, 0#8, 0#8] := by
  decide +kernel

/-- An activation of ticket 1 waits in the pending place. -/
def waiting : State :=
  (withEntries .reset [runningEntry .selectPreset]).modEqualiser 0 fun e => { e with pending := some ⟨2, .command 1⟩ }

theorem witness_LongCommandsAreAccepted :
    (Covers State.reset 0 0 ∧ CompletionsSound State.reset ∧ State.reset.completions.entries.length < 8) ∧
      (State.reset.control 0).lock = false ∧ (State.reset.equaliser 0).pending = none ∧
      Executing (issued [0x18#8, 1#8, 3#8]) 0 0x18#8 [numberParam (0 : ScreenId), BitVec.ofNat 8 (3 : PresetId).val] ∧
      CompletionsSound waiting ∧ waiting.completions.entries.length < 8 ∧
      (waiting.equaliser 0).pending = some ⟨2, .command 1⟩ ∧
      (∃ e ∈ waiting.completions.entries, e.ticket = 1 ∧ e.done = none) ∧
      Executing (issue waiting [0x18#8, 1#8, 0#8]) 0 0x18#8 [numberParam (0 : ScreenId), BitVec.ofNat 8 (0 : PresetId).val] ∧
      (0x80#8 ++ 0#8 : BitVec 16) ≠ 0#16 ∧ State.reset.safety.asserted = false ∧
      (State.reset.control 0).evacuationMute = false ∧ (State.reset.control 0).state = .idle ∧
      Executing (issued [0x1E#8, 1#8, 0x80#8, 0#8]) 0 0x1E#8 [numberParam (0 : ScreenId), 0x80#8, 0#8] := by
  unfold CompletionsSound
  decide +kernel

/-- Eight long operations run. -/
def crammed (s : State := .reset) : State :=
  withEntries s ((List.range 8).map fun n => { runningEntry .store with ticket := n + 1 })

theorem witness_LongCommandsAreAccepted_refused :
    (Covers (crammed) 0 0 ∧ ((crammed).control 0).lock = false ∧ 8 ≤ (crammed).completions.entries.length ∧
        Executing (issue crammed [0x18#8, 1#8, 3#8]) 0 0x18#8 [numberParam (0 : ScreenId), BitVec.ofNat 8 (3 : PresetId).val] ∧
        Executing (issue crammed [0x1E#8, 1#8, 0#8, 1#8]) 0 0x1E#8 [numberParam (0 : ScreenId), 0#8, 1#8] ∧
        ((crammed).control 0).state = .idle ∧ (crammed).safety.asserted = false ∧
        ((crammed).control 0).evacuationMute = false) ∧
      ∀ s ∈ [dark .reset, inShow .reset], (s.control 0).state ≠ .idle ∧
        Executing (issue s [0x1E#8, 1#8, 0#8, 1#8]) 0 0x1E#8 [numberParam (0 : ScreenId), 0#8, 1#8] := by
  decide +kernel

/-- The show lock of screen 1 set. -/
def lockedState : State := State.reset.modControl 0 fun c => { c with lock := true }

theorem witness_LockRefuses :
    Covers lockedState 0 0 ∧ (lockedState.control 0).lock = true ∧
      Executing (issue lockedState [0x18#8, 1#8, 0#8]) 0 0x18#8 [numberParam (0 : ScreenId), BitVec.ofNat 8 (0 : PresetId).val] ∧
      Executing (issue lockedState [0x17#8, 1#8, 1#8]) 0 0x17#8
        [numberParam (0 : ScreenId), BitVec.ofNat 8 (sourceCode .nonsync)] ∧
      Executing (issue lockedState [0x1A#8, 1#8, 1#8, 0#8, 0#8]) 0 0x1A#8
        [numberParam (0 : ScreenId), numberParam (0 : FeedId), 0#8, 0#8] ∧
      Executing (issue lockedState [0x24#8, 1#8, 7#8]) 0 0x24#8 [numberParam (0 : ScreenId), 7#8] ∧
      (lockedState.control 0).state ≠ .inShow ∧
      Executing (issue lockedState [0x26#8, 1#8]) 0 0x26#8 [numberParam (0 : ScreenId)] := by
  decide +kernel

theorem witness_SetTrimWritesBankAndRecord :
    let s := issued [0x1A#8, 1#8, 16#8, 0x80#8, 0#8]
    Covers s 0 0 ∧ (s.control 0).lock = false ∧
      Executing s 0 0x1A#8 [numberParam (0 : ScreenId), numberParam (15 : FeedId), 0x80#8, 0#8] := by
  decide +kernel

theorem witness_ClearFeedRevivesTheFeed :
    let s := issued [0x1B#8, 4#8, 16#8]
    Covers s 0 3 ∧ Executing s 0 0x1B#8 [numberParam (3 : ScreenId), numberParam (15 : FeedId)] := by
  decide +kernel

theorem witness_AcknowledgedRecordsMove :
    Executing (issued [0x05#8, 0#8]) 0 0x05#8 [0#8] ∧ alarmKindOfCode (14#8).toNat = some .overflow ∧
      scopeOf .overflow (0#8).toNat (0#8).toNat = some .device ∧ (∀ i, Scope.device.screen? = some i → False) ∧
      Executing (issued [0x05#8, 14#8, 0#8, 0#8]) 0 0x05#8 [14#8, 0#8, 0#8] ∧
      alarmKindOfCode (1#8).toNat = some .overLevel ∧ scopeOf .overLevel (4#8).toNat (16#8).toNat = some (.feed 3 15) ∧
      (∀ i, (Scope.feed 3 15).screen? = some i → Covers State.reset 0 i) := by
  decide +kernel

theorem witness_SetLineActsOnTheLine :
    let s := issued [0x1D#8, 16#8, 2#8, 0x03#8, 0xE8#8, 4#8]
    (2#8).toNat ≤ 2 ∧ 1 ≤ (0x03#8 ++ 0xE8#8 : BitVec 16).toNat ∧ (0x03#8 ++ 0xE8#8 : BitVec 16).toNat ≤ 1000 ∧
      (s.line 15).owner = .house ∧ HasHouse s 0 ∧
      Executing s 0 0x1D#8 [numberParam (15 : LineId), 2#8, 0x03#8, 0xE8#8, numberParam (3 : ScreenId)] := by
  decide +kernel

/-- Every station UP, and a queue of `n` broadcasts. -/
def upStations : State := State.reset.modLoop fun l => { l with stations := Tab.map (fun r => { r with state := .up }) l.stations }
def queued (n : Nat) (s : State) : State :=
  s.modLoop fun l => { l with queue := List.replicate n ⟨.broadcast 9, 1, 0, .port 1⟩ }

theorem witness_SendOrderQueues :
    let s := issue (queued 31 upStations) [0x1C#8, 8#8, 127#8, 0#8, 1#8]
    let t := issue (queued 32 upStations) [0x1C#8, 15#8, 0#8, 0#8, 1#8]
    let u := issued [0x1C#8, 1#8, 0#8, 0#8, 0#8]
    HasHouse s 0 ∧ (127#8).toNat ≤ 127 ∧ 1 ≤ (8#8).toNat ∧ (8#8).toNat ≤ 8 ∧ Executing s 0 0x1C#8 [8#8, 127#8, 0#8, 1#8] ∧
      ordersHeld s < 32 ∧ (s.station 7).state ≠ .absent ∧ (s.station 7).state ≠ .down ∧ 9 ≤ (15#8).toNat ∧
      (15#8).toNat ≤ 15 ∧ Executing t 0 0x1C#8 [15#8, 0#8, 0#8, 1#8] ∧ 32 ≤ ordersHeld t ∧
      Executing u 0 0x1C#8 [1#8, 0#8, 0#8, 0#8] ∧ (u.station 0).state = .absent := by
  decide +kernel

/-- Station 8 with an order to be sent again, and a station 1 whose PROBE is due. -/
def resending : State := State.reset.modStation 7 fun r =>
  { r with state := .up, next := 1, outstanding := [⟨0, 5, 7, .port 0⟩], resend := some 0 }
def probing : State := resending.modStation 0 fun r => { r with state := .busy, due := some .probe }

theorem witness_TransmitterArbitrates :
    (State.reset.modLoop fun l => { l with state := .awaiting 0 0 }).loop.state ≠ .free ∧
      (State.reset.modLoop fun l => { l with evacuationSlot := some ⟨9, 1, 0⟩ }).loop.evacuationSlot = some ⟨9, 1, 0⟩ ∧
      (probing.loop.state = .free ∧ probing.loop.evacuationSlot = none ∧ (probing.station 0).due = some .probe ∧
        ∀ j : StationId, j < 0 → ¬ (probing.station j).due.isSome = true) ∧
      (resending.loop.evacuationSlot = none ∧ (∀ k, ¬ (resending.station k).due.isSome = true) ∧
        (resending.station 7).state = .up ∧ (resending.station 7).resend = some 0 ∧
        (resending.station 7).outstanding[0]? = some ⟨0, 5, 7, .port 0⟩ ∧
        ∀ m : StationId, m < 7 → (resending.station m).resend = none) ∧
      ((∀ k, (upStations.station k).resend = none) ∧ (∀ k, ¬ (upStations.station k).due.isSome = true) ∧
        (upStations.station 2).state = .up ∧ (upStations.station 2).outstanding.length < 3 ∧
        upStations.loop.queue = [] ∧ (queued 1 upStations).loop.queue = [] ++ ⟨.broadcast 9, 1, 0, .port 1⟩ :: []) := by
  decide +kernel

def sendingFrame (f : LoopFrame) (s : State) : State := s.modLoop fun l => { l with state := .sending f }

theorem witness_TransmissionEnds :
    Running (sendingFrame (.probe 2) upStations) ∧ (sendingFrame (.probe 2) upStations).loop.state = .sending (.probe 2) ∧
      ((sendingFrame (.probe 2) upStations).station 2).state ≠ .absent ∧
      ((sendingFrame (.restart 2) .reset).station 2).state = .absent ∧
      (sendingFrame (.restart 2) .reset).loop.state = .sending (.restart 2) ∧
      (sendingFrame (.order 2 7 false 1 1) .reset).loop.state = .sending (.order 2 7 false 1 1) ∧
      (sendingFrame (.broadcast 9 1 1 none) .reset).loop.state = .sending (.broadcast 9 1 1 none) ∧
      (sendingFrame (.broadcast 9 1 1 (some (.cue ⟨0, 0, 1⟩))) .reset).loop.state =
        .sending (.broadcast 9 1 1 (some (.cue ⟨0, 0, 1⟩))) := by
  decide +kernel

theorem witness_BadFramesAreIgnored :
    Running (sendingFrame (.probe 2) .reset) ∧ (sendingFrame (.probe 2) .reset).loop.state = .sending (.probe 2) ∧
      (sendingFrame (.probe 2) .reset).loop.expiredAt ≠ some (sendingFrame (.probe 2) .reset).scanner.slot ∧
      Running State.reset ∧ ∀ head status zone hi lo : Byte, ([] : List Byte) ≠ [0xA5#8, head, status, zone, hi, lo] := by
  refine ⟨by decide +kernel, by decide +kernel, by decide +kernel, rfl, ?_⟩
  intro _ _ _ _ _ h
  cases h

/-- A TALLY of station 3, ready, with a next-expected number. -/
def tallyBytes (next : Nat) : List Byte :=
  let body := [0x38#8, BitVec.ofNat 8 (128 + next), 11#8]
  [0xA5#8] ++ body ++ bytesOf 2 (crc body).toNat

/-- Station 3 in a state with its window at number 7. -/
def station3 (state : StationState) : State := State.reset.modStation 2 fun r =>
  { r with state := state, oldest := 7, next := 0, outstanding := [⟨7, 5, 7, .port 0⟩] }

theorem witness_TallyAcknowledges :
    let s := station3 .up
    Running s ∧ s.loop.state = .free ∧ tallyOf (tallyBytes 0) = some ⟨2, true, false, 0, some 11⟩ ∧
      (s.station 2).state = .up ∧ (s.station 2).oldest < 8 ∧ 0 = ((s.station 2).oldest + 1) % 8 ∧
      1 ≤ (s.station 2).outstanding.length ∧ (s.station 2).outstanding.length ≤ 3 := by
  decide +kernel

theorem witness_TallyJoinsTheStation :
    Running (station3 .joining) ∧ (station3 .joining).loop.state = .free ∧
      tallyOf (tallyBytes 0) = some ⟨2, true, false, 0, some 11⟩ ∧ ((station3 .joining).station 2).state = .joining ∧
      ((station3 .down).station 2).state = .down := by
  decide +kernel

/-- The loop awaits station 3. -/
def awaited (state : StationState) (retry : Nat) : State :=
  ((station3 state).modStation 2 fun r => { r with retry := retry, timer := some 0 }).modLoop fun l =>
    { l with state := .awaiting 2 0 }

theorem witness_UnansweredRequestsAreRetried :
    (Running (awaited .up 2) ∧ (awaited .up 2).loop.state = .awaiting 2 0 ∧ ((awaited .up 2).station 2).state = .up ∧
      min 255 (((awaited .up 2).station 2).retry + 1) ≤ (awaited .up 2).loop.table.retryLimit) ∧
      ((awaited .joining 3).loop.table.retryLimit ≠ 7 ∧ ((awaited .joining 3).station 2).state = .joining ∧
        (awaited .joining 3).loop.table.retryLimit < min 255 (((awaited .joining 3).station 2).retry + 1)) ∧
      (awaited .down 0).loop.state = .awaiting 2 0 ∧ ((awaited .down 0).station 2).state = .down ∧
      ((awaited .busy 0).station 2).timer = some 0 ∧ ((awaited .busy 0).station 2).state = .busy := by
  decide +kernel

theorem witness_StartUpRuns :
    (after .powerOn .reset).power = .stabilising true ∧ (after .resetLine .reset).power = .stabilising false ∧
      (∀ q, Tab.get (after .powerOn .reset).store.places q = Place.empty) ∧ placeInHand State.reset ≠ some 0 := by
  decide +kernel

/-- P1's staging OPEN with bytes for a target, and P1 executing a window. -/
def staged (t : LoadTarget) (bytes : List Byte) (window : List Byte) (s : State := .reset) : State :=
  issue (s.modPort 0 fun q => { q with staging := .opened t bytes bytes.length }) window
def overflowed (window : List Byte) : State :=
  issue (State.reset.modPort 0 fun q => { q with staging := .overflowed .preset 5000 }) window

/-- A window under a staging of `n` zero bytes. -/
def filled (n : Nat) (window : List Byte) : State := staged .preset (List.replicate n 0#8) window

theorem witness_LoadsAreStaged :
    (targetOfCode (7#8).toNat = some .accessTable ∧ Executing (issued [0x20#8, 7#8]) 0 0x20#8 [7#8] ∧
      1 ≤ [9#8].length ∧ [9#8].length ≤ 32 ∧ Executing (filled 4095 [0x21#8, 9#8]) 0 0x21#8 [9#8] ∧
      4095 + [9#8].length ≤ 4096 ∧ 4096 < 4096 + [9#8].length ∧ Executing (filled 4096 [0x21#8, 9#8]) 0 0x21#8 [9#8] ∧
      Executing (overflowed [0x21#8, 9#8]) 0 0x21#8 [9#8] ∧
      ((overflowed [0x21#8, 9#8]).port 0).staging = .overflowed .preset 5000 ∧
      Executing (issued [0x21#8, 9#8]) 0 0x21#8 [9#8] ∧ ((issued [0x21#8, 9#8]).port 0).staging = .closed) ∧
      ∀ n, ((filled n [0x21#8, 9#8]).port 0).staging = .opened .preset (List.replicate n 0#8) n := by
  refine ⟨by decide +kernel, fun n => ?_⟩
  simp [filled, staged, issue, State.port]

/-- A cue record: SOURCE MUTE at time 3. -/
def cueRecord : List Byte := [0#8, 0#8, 3#8, 3#8, 1#8, 2#8, 0#8, 0#8, 0#8, 0#8, 0#8, 0#8]
def settingsContent : List Byte := settingsBytes 0 .default
def accessContent : List Byte := [1#8, 0#8, 0#8, 0#8, 0#8, 0#8, 0#8, 0#8, 0#8, 1#8]
def stationContent : List Byte := [255#8, 5#8, 7#8, 1#8, 15#8, 127#8, 0#8, 0#8]

theorem witness_CloseLoadJudgesAndCommits :
    let w (n : Nat) : List Byte := [0x22#8, 0#8, BitVec.ofNat 8 n]
    Executing (issued (w 0)) 0 0x22#8 [0#8, 0#8] ∧ ((issued (w 0)).port 0).staging = .closed ∧
      Executing (overflowed (w 0)) 0 0x22#8 [0#8, 0#8] ∧ ((overflowed (w 0)).port 0).staging = .overflowed .preset 5000 ∧
      Executing (staged .cueList (1#8 :: cueRecord) (w 12)) 0 0x22#8 [0#8, 12#8] ∧
      (1#8 :: cueRecord).length ≠ (0#8 ++ 12#8 : BitVec 16).toNat ∧
      (1#8 :: cueRecord).length = (0#8 ++ 13#8 : BitVec 16).toNat ∧
      Executing (staged .cueList (1#8 :: cueRecord) (w 13)) 0 0x22#8 [0#8, 13#8] ∧
      wholeMembers 12 cueRecord = some [cueRecord] ∧
      readAll (cueOf fun l => (State.reset.line l).accepts 0) [cueRecord] = some [⟨3, .source .mute, true, false, .none, 0⟩] ∧
      1 ≤ cueRoom State.reset 0 ∧ (State.reset.control 0).state ≠ .inShow ∧ (State.reset.control 0).lock = false ∧
      Covers State.reset 0 0 ∧ HasHouse State.reset 0 ∧ ¬ HasHouse (rightless []) 0 ∧ ¬ Covers (rightless []) 0 0 ∧
      (lockedState.control 0).lock = true ∧ (State.reset.equaliser 0).commissioned = none ∧
      (State.reset.equaliser 0).switch = .none ∧ (∃ v, settingsOf settingsContent = some v) ∧
      settingsContent.length = 42 ∧ settingsContent.head? = some (numberParam (0 : ScreenId)) ∧
      accessContent.length = 10 ∧ accessContent.getD (2 * (4 : PortId).val + 1) 0#8 ≠ 0#8 ∧
      stationContent.length = 8 ∧ stationTableOf stationContent = some ⟨255#8, 5, 7, some ⟨15, 127, 0⟩⟩ := by
  refine ⟨?_, ?_, ?_, ?_, ?_, ?_, ?_, ?_, ?_, ?_, ?_, ?_, ?_, ?_, ?_, ?_, ?_, ?_, ?_, ?_, ?_⟩
  rotate_left 20
  · exact ⟨⟨_, Option.some_get (show (settingsOf settingsContent).isSome = true by decide +kernel) |>.symm⟩, by decide +kernel⟩
  all_goals decide +kernel

/-- The factory preset as staged content. -/
theorem witness_CloseLoadJudgesAndCommits_preset :
    ∃ content, presetOf ((List.replicate 16 [0#8, 0#8, 0#8, 0#8, 0#8]).flatten) = .ok content := ⟨_, rfl⟩

/-- Ticket 1 of a kind, by another port. -/
def othersEntry : Entry := ⟨1, 4, .store, none⟩

theorem witness_AbortEndsTheOperation :
    let s (e : Entry) : State := withEntries (issued [0x1F#8, 1#8]) [e]
    (CompletionsSound (s othersEntry) ∧ Executing (s othersEntry) 0 0x1F#8 [1#8] ∧
      Executing (issued [0x1F#8, 0#8]) 0 0x1F#8 [0#8] ∧ CompletionsSound (issued [0x1F#8, 0#8]) ∧
      othersEntry.owner ≠ 0 ∧ ¬ HasHouse (withEntries (rightless [0x1F#8, 1#8]) [othersEntry]) 0 ∧
      (runningEntry .recallStored).kind = .recallStored ∧ (runningEntry .recallStored).owner = 0 ∧ doneEntry.done.isSome = true ∧
      doneEntry.kind ≠ .recallStored ∧ doneEntry.kind ≠ .wipeScreen) ∧
      (let r : CalRequest := ⟨1, 0, 1#16, [0], none, [], 0#16, 0#16, 0#16⟩
       ∃ x ∈ ((s (runningEntry (.calibrate 0 1#16))).withCalibration [r]).calibration, x.ticket = 1) ∧
      ((issue waiting [0x1F#8, 1#8]).equaliser 0).pending = some ⟨2, .command 1⟩ ∧
      (∀ j, j ≠ 0 → (waiting.equaliser j).pending = none) ∧
      (∀ i, ((s (runningEntry .selectPreset)).equaliser i).pending = none) ∧
      (setOp (s (runningEntry .store)) (.store 1 .device ⟨0, 0, []⟩ [] 0 [] false)).store.op =
        .store 1 .device ⟨0, 0, []⟩ [] 0 [] false := by
  unfold CompletionsSound
  decide +kernel

theorem witness_StoreCommandsBegin :
    let s := issued [0x23#8, 0#8]
    (s.straps.storeBypass = false ∧ s.store.op = .none ∧ CompletionsSound s ∧ s.completions.entries.length < 8) ∧
      HasHouse s 0 ∧ Covers s 0 3 ∧ targetRecords .device = [deviceRecord] ∧ targetPlace s deviceRecord = some 0 ∧
      Executing s 0 0x23#8 [0#8] ∧ targetPlace s (screenRecord 3 6) = some 28 ∧
      Executing (issued [0x23#8, 4#8]) 0 0x23#8 [numberParam (3 : ScreenId)] ∧ (s.control 0).lock = false ∧
      Executing (issued [0x24#8, 1#8, 7#8]) 0 0x24#8 [numberParam (0 : ScreenId), BitVec.ofNat 8 (7 : Fin 8).val] ∧
      Executing (issued [0x24#8, 0#8, 0#8]) 0 0x24#8 [0#8, 0#8] ∧ ((dark .reset).control 0).state = .dark ∧
      Executing (issue (dark .reset) [0x25#8, 1#8]) 0 0x25#8 [numberParam (0 : ScreenId)] ∧
      (s.control 0).state ≠ .inShow ∧ targetPlace s (screenRecord 0 3) = some 4 ∧
      Executing (issued [0x26#8, 1#8]) 0 0x26#8 [numberParam (0 : ScreenId)] := by
  unfold CompletionsSound
  decide +kernel

/-- A store operation runs under ticket 1. -/
def operating (op : StoreOp) : State := setOp (withEntries .reset [runningEntry .store]) op
def oneWrite : Writing := ⟨0, 0, [1#8]⟩

/-- Every spare retired. -/
def spareless (s : State) : State := s.modStore fun t =>
  { t with retired := Tab.set (Tab.set (Tab.set t.retired 29 true) 30 true) 31 true }

theorem witness_WritesComplete :
    let op (left : List RecordId) (aborting : Bool) : StoreOp := .store 1 (.screen 0) oneWrite left 0 [] aborting
    Running (operating (op [] true)) ∧ CompletionsSound (operating (op [] true)) ∧
      (operating (op [] true)).store.op = op [] true ∧ RunningEntry (operating (op [] true)) 1 ∧
      (operating (op [2] false)).store.op = op [2] false ∧
      targetPlace (after (.storeWriteComplete true false) (operating (op [2] false))) 2 = some 2 ∧
      lowestSpare (after (.storeWriteComplete false true) (operating (op [2] false))) = some 29 ∧
      lowestSpare (after (.storeWriteComplete false true) (spareless (operating (op [2] false)))) = none ∧
      (operating (.commission oneWrite)).store.op = .commission oneWrite := by
  unfold CompletionsSound RunningEntry
  decide +kernel

/-- Record r mapped to its home place with some content. -/
def mapped (r : RecordId) (q : Place) (s : State) : State := setMap (setPlace s (homePlace r) q) r (some (homePlace r))

/-- A PRESET1 record of screen 1 with empty entries. -/
def presetBytes : List Byte := [1#8, 1#8] ++ (List.replicate 16 [0#8, 0#8, 0#8, 0#8, 0#8]).flatten

theorem witness_ReadsAndErasuresComplete :
    let op : StoreOp := .recallStored 1 (.screen 0) 4 [screenRecord 0 4] []
    let good := recordPlace (screenRecord 0 4) presetBytes
    Running (operating op) ∧ CompletionsSound (operating op) ∧ (operating op).store.op = op ∧ RunningEntry (operating op) 1 ∧
      Tab.get (operating op).store.map (screenRecord 0 4) = none ∧
      Tab.get (mapped (screenRecord 0 4) good (operating op)).store.map (screenRecord 0 4) = some 5 ∧
      good.read = some presetBytes ∧ { good with checksum := good.checksum + 1 }.read = none ∧
      recordName (screenRecord 0 4) = .preset 0 1 ∧ (presetRecordOf 1 presetBytes).map DeferredPreset.preset = some 1 ∧
      ((operating op).control 0).lock = false ∧ ((operating op).equaliser 0).switch = .none ∧
      (operating (.wipe 1 0 [(2, 2)] 0)).store.op = .wipe 1 0 [(2, 2)] 0 := by
  unfold CompletionsSound RunningEntry
  decide +kernel

/-- Screen 1's lane in a stream state, silent for 48 periods. -/
def silent (x : StreamState) : State := State.reset.modLane 0 fun l => { l with stream := x, silence := 48 }

theorem witness_FramesArriveAndCease :
    (List.replicate 16 0#24).length = 16 ∧ Running State.reset ∧ (State.reset.screen 0).lane.arrived = none ∧
      ((after (.wordFrameArrival 0 (List.replicate 16 0#24)) .reset).screen 0).lane.arrived.isSome = true ∧
      (State.reset.screen 0).lane.stream = .absent ∧ (State.reset.screen 0).lane.silence < 48 ∧
      48 ≤ ((silent .verify).screen 0).lane.silence ∧ ((silent .verify).screen 0).lane.stream = .verify ∧
      ((silent .holdover).screen 0).lane.stream = .holdover ∧ ((silent .holdover).screen 0).lane.alignIn = none := by
  decide +kernel

/-- The words of a descriptor: SIX, sequence 0, position 9, offset −7, mask all set; and the frame that brings the last. -/
def w1 : Word := 0x300000#24
def w3 : Word := 0xFFFFF9#24
def w4 : Word := 0x003FFF#24
def w5 : Word := 0xC3A51E#24 + w1 + 9#24 + w3 + w4
def lastWord : List Word := List.replicate 14 0#24 ++ [w5, 0#24]

/-- Screen 1's lane with the first five words heard. -/
def heardLane (l : Lane) : Lane :=
  { l with words := [some w4, some w3, some 9#24, some w1, some 0xC3A51E#24] }
def hearing (x : StreamState) (c : Candidate) : State := State.reset.modLane 0 fun l =>
  heardLane { l with stream := x, candidate := some c, lost := true }

/-- Screen 1 at position 5 of an aligned block, expecting sequence number 0 after 255. -/
def judging (missCount : Nat) : State :=
  (State.reset.modLane 0 fun l => heardLane
    { l with stream := .holdover, missCount := missCount, expected := some 255, position := some 8, format := 3 }).modPath 0
    fun p => { p with index := 5 }

theorem witness_StreamLocks :
    let verifying := hearing .verify ⟨255, 3, 485⟩
    Running verifying ∧ (verifying.screen 0).lane.arrived = none ∧
      (verifying.screen 0).lane.heard 0xC3A51E#24 w1 9#24 w3 w4 ∧ lastWord[14]? = some w5 ∧
      WellFormedWords 0xC3A51E#24 w1 9#24 w3 w4 w5 ∧ ((hearing .search ⟨0, 0, 0⟩).screen 0).lane.stream = .search ∧
      (hearing .search ⟨0, 0, 0⟩ |>.screen 0).lane.heard 0xC3A51E#24 w1 9#24 w3 w4 ∧
      (verifying.screen 0).lane.stream = .verify ∧ (verifying.screen 0).lane.candidate = some ⟨255, 3, 485⟩ ∧
      (w1.extractLsb' 0 8).toNat = (255 + 1) % 256 ∧ (w1.extractLsb' 20 4).toNat = 3 ∧
      (verifying.screen 0).lane.lost = true ∧ ¬ ((w1.extractLsb' 0 8).toNat = (7 + 1) % 256) ∧
      ((verifying.screen 0).lane.take (List.replicate 16 0#24)).window = none := by
  unfold Lane.heard WellFormedWords
  decide +kernel

theorem witness_LockedBlocksAreJudged :
    let s := judging 0
    Running s ∧ (s.screen 0).lane.arrived = none ∧ (s.screen 0).lane.stream = .holdover ∧
      (s.screen 0).lane.alignIn = none ∧ (s.screen 0).path.index = 5 ∧ (s.screen 0).lane.expected = some 255 ∧
      (s.screen 0).lane.position = some 8 ∧ (s.screen 0).lane.heard 0xC3A51E#24 w1 9#24 w3 w4 ∧ lastWord[14]? = some w5 ∧
      WellFormedWords 0xC3A51E#24 w1 9#24 w3 w4 w5 ∧ (w1.extractLsb' 0 8).toNat = (255 + 1) % 256 ∧
      ((s.screen 0).lane.take (List.replicate 16 0#24)).window = none ∧
      (s.screen 0).lane.missCount + 1 < (s.screen 0).settings.nMiss ∧
      ((judging 3).screen 0).settings.nMiss ≤ ((judging 3).screen 0).lane.missCount + 1 := by
  unfold Lane.heard WellFormedWords
  decide +kernel

/-- The lane of the examples acts as the rules say: it locks, and it takes the block's position. -/
theorem test_examples_lock :
    ((after (.wordFrameArrival 0 lastWord) (hearing .verify ⟨255, 3, 485⟩)).screen 0).lane.stream = .locked ∧
      ((after (.wordFrameArrival 0 lastWord) (judging 0)).screen 0).lane.receiving.report = some (.normal 9) ∧
      ((after (.wordFrameArrival 0 (List.replicate 16 0#24)) (judging 3)).screen 0).lane.stream = .search := by
  decide +kernel

/-- A sweep of feeds 1 and 2 of screen 1 stands in the tenth block of a step. -/
def sweeping (reading step : Nat) (left : List FeedId) : State :=
  (withEntries .reset [runningEntry (.calibrate 0 3#16)]).withCalibration
    [⟨1, 0, 3#16, left, some ⟨0, step, 10, reading⟩, [], 0#16, 0#16, 0#16⟩]

theorem witness_SamplePeriodAdvances :
    Running State.reset ∧ boundaryDue ((due .reset 3).screen 3) = true ∧ (∀ i, boundaryDue (State.reset.screen i) = false) ∧
      ((State.reset.modPath 0 fun p => { p with screenGate := .closed }).screen 0).path.screenGate = .closed ∧
      State.reset.calibration = [] ∧
      ((sweeping 0 1 []).calibration.head?.bind CalRequest.tone).map Tone.feed = some 0 := by
  decide +kernel

theorem witness_OutputStageNeverExceedsItsInput :
    480 ≤ 480 ∧ (∀ k ∈ outputFactors Screen.reset .opened 480, k = 480) ∧ Gate.closed = .closed ∧
      ({ Screen.reset with path := { SignalPath.reset with screenGate := .closed } }).path.screenGate = .closed := by
  decide +kernel

theorem witness_GainTableIsExact : (-959 : Int) ≤ -959 ∧ (-959 : Int) ≤ 120 ∧ (120 : Int) < 121 ∧ (-961 : Int) ≤ -960 := by
  decide

theorem witness_ReportsAreTheLargestLevels :
    (0 : Nat) < 1 ∧ 8 * gain (-960) ≤ 0 ∧ gain (-904) ^ 2 / 1024 ≤ 1 ∧ (-960 : Int) ≤ -904 ∧ (-904 : Int) ≤ 0 := by
  decide +kernel

theorem witness_GatesMoveAtABoundary :
    Running State.reset ∧ boundaryDue (State.reset.screen 0) = false ∧ boundaryDue ((due .reset 0).screen 0) = true := by
  decide +kernel

/-- Screen 1's boundary due, with a fade in its block `k`; and a pulse of one block. -/
def fading (k : Nat) : State := due (State.reset.modControl 0 fun c => { c with move := .fade 0 (-100) 3 k }) 0
def pulsing : State := due (State.reset.modLine 15 fun r => { r with pulse := 1, pulseScreen := some 0 }) 0
def freeRunning (autoEnd : Bool) : State :=
  due ((State.reset.modControl 0 fun c => { c with state := .inShow, clock := .freeRun 4300 300 }).modSettings 0
    fun v => { v with autoEnd := autoEnd }) 0

theorem witness_FadesPulsesAndFreeRunsEnd :
    (Running (fading 2) ∧ BoundaryOpen (fading 2) 0 .fade ∧ ((fading 2).control 0).move = .fade 0 (-100) 3 2 ∧ 3 ≤ 2 + 1) ∧
      (BoundaryOpen (fading 1) 0 .fade ∧ ((fading 1).control 0).move = .fade 0 (-100) 3 1 ∧ 1 + 1 < 3) ∧
      ((pulsing.line 15).pulseScreen = some 0 ∧ BoundaryOpen pulsing 0 (.pulse 15) ∧ (pulsing.line 15).pulse ≤ 1) ∧
      ∀ b, BoundaryOpen (freeRunning b) 0 .freeRun ∧ ((freeRunning b).control 0).state = .inShow ∧
        ((freeRunning b).control 0).clock = .freeRun 4300 300 ∧ ((freeRunning b).screen 0).settings.freeRunLimit ≤ 300 ∧
        ((freeRunning b).screen 0).lane.alignIn = none ∧ ((freeRunning b).screen 0).lane.receiving.report = none ∧
        ((freeRunning b).screen 0).settings.autoEnd = b ∧ boundaryDue ((freeRunning b).screen 0) = true ∧
        ((freeRunning b).control 0).sleepHeld = false ∧ handedNext ((freeRunning b).screen 0).lane = none := by
  decide +kernel

def segmentEnding : State := due ((inShow .reset).modGovernor 0 fun g => { g with blockCount := 99 }) 0

theorem witness_SegmentMovesTheCeiling :
    Running segmentEnding ∧ BoundaryOpen segmentEnding 0 .segment ∧ (segmentEnding.control 0).state = .inShow ∧
      (segmentEnding.screen 0).governor.blockCount = 99 := by
  decide +kernel

/-- A switch of ticket 1 to preset 1 is in a state at a boundary that is due. -/
def switching (w : Request → Switch) : State :=
  due ((withEntries .reset [runningEntry .selectPreset]).modEqualiser 0 fun e =>
    { e with switch := w ⟨1, .command 1⟩, incoming := some e.running }) 0

theorem witness_SwitchesEnd :
    let s := switching .crossfade
    let t := switching .cutIn
    let u := switching fun r => .cutOut r 0
    Running s ∧ CompletionsSound s ∧ RunningEntry s 1 ∧ BoundaryOpen s 0 .switchProgress ∧
      (s.equaliser 0).switch = .crossfade ⟨1, .command 1⟩ ∧ (s.equaliser 0).incoming = some (s.equaliser 0).running ∧
      (s.equaliser 0).pending = none ∧ (t.equaliser 0).switch = .cutIn ⟨1, .command 1⟩ ∧ BoundaryOpen t 0 .switchProgress ∧
      (t.equaliser 0).pending = none ∧ (u.equaliser 0).switch = .cutOut ⟨1, .command 1⟩ 0 ∧
      BoundaryOpen u 0 .switchProgress ∧
      totalSections (Tab.get (u.equaliser 0).bank 1) ≤ u.pool.free.length + (recordSlots (u.equaliser 0).running).length ∧
      (u.pool.free ++ recordSlots (u.equaliser 0).running).Nodup := by
  unfold CompletionsSound RunningEntry
  decide +kernel

theorem witness_CalibrationStepsEnd :
    let s (reading step : Nat) (left : List FeedId) : State := due (sweeping reading step left) 0
    let r (reading step : Nat) (left : List FeedId) : CalRequest :=
      ⟨1, 0, 3#16, left, some ⟨0, step, 10, reading⟩, [], 0#16, 0#16, 0#16⟩
    (Running (s 63 9 [1]) ∧ (s 63 9 [1]).calibration = [r 63 9 [1]] ∧ BoundaryOpen (s 63 9 [1]) 0 .calibration) ∧
      ((s 64 1 [1]).calibration = [r 64 1 [1]] ∧ ((s 64 1 [1]).screen 0).settings.senseFitted.getLsbD 1 = true) ∧
      (s 3968 10 []).calibration = [r 3968 10 []] ∧ RunningEntry (s 3968 10 []) 1 ∧
      (s 3969 1 []).calibration = [r 3969 1 []] ∧ (s 63 10 []).calibration = [r 63 10 []] := by
  unfold RunningEntry
  decide +kernel

/-- Feeds 1 and 16 of screen 1 are VERIFIED, the pointer stands at the latter's line. -/
def watching : State :=
  { (State.reset.modFeed 0 0 fun r => { r with calibration := some (-600, 64) }).modFeed 0 15
      fun r => { r with calibration := some (0, 64) } with scanner := ⟨79, some 15⟩ }

theorem witness_SenseSlotsRotate :
    Running State.reset ∧ State.reset.calibration = [] ∧ (∀ n, ¬ InRotation State.reset n) ∧
      NextLine watching.scanner.pointer (InRotation watching) 0 ∧ (79 + 1) % 80 = 0 ∧
      (sweeping 0 1 []).calibration.length = 1 ∧ ((sweeping 0 1 []).calibration.head?.bind CalRequest.tone).isSome = true ∧
      (sweeping 0 1 []).scanner.slot % 2 = 0 ∧
      ({ sweeping 0 1 [] with scanner := ⟨1, none⟩ }).scanner.slot % 2 = 1 := by
  refine ⟨rfl, rfl, ?_, ⟨?_, .inr ⟨?_, ?_⟩⟩, ?_⟩
  · unfold InRotation
    decide +kernel
  · unfold InRotation
    decide +kernel
  · intro p hp m hm
    cases hp
    revert m
    unfold InRotation
    decide +kernel
  · intro m _
    exact Fin.zero_le m
  · decide +kernel

theorem witness_SafetyInputIsRecognised :
    let once (level recognised : Bool) : State := { State.reset with safety := ⟨recognised, some level⟩ }
    Running State.reset ∧ State.reset.safety.previous ≠ some true ∧ false = State.reset.safety.asserted ∧
      (once false true).safety.asserted = true ∧ (once false true).safety.previous = some false ∧
      (once true false).safety.asserted = false ∧ (once true false).safety.previous = some true := by
  decide +kernel

theorem witness_CommandsKeepTheBudgets :
    (∃ t, exec .samplePeriod State.reset = .next t) ∧ CeilingsInRange State.reset ∧ QueueBounded (queued 32 .reset) ∧
      CuesInMemory oneCue ∧
      (∀ i, termCount (State.reset.screen i).renderer.table ≤ 192) ∧
      (∀ r ∈ screenRecords 0, r ∈ targetRecords (.screen 0)) := by
  refine ⟨⟨_, rfl⟩, ?_⟩
  unfold CeilingsInRange QueueBounded CuesInMemory
  decide +kernel

theorem witness_BudgetsKept : BudgetsKept State.reset := by
  refine ⟨by decide +kernel, ?_⟩
  have e : ∀ p, (State.reset.port p).staging = .closed := by decide +kernel
  intro p t bytes sent h
  rw [e p] at h
  cases h

theorem witness_RecallInTarget :
    RecallInTarget (operating (.recallStored 1 (.screen 0) 7 (screenRecords 0) [])) := by
  intro ticket t selector left outcomes h r hr
  have e : StoreOp.recallStored 1 (.screen 0) 7 (screenRecords 0) [] = .recallStored ticket t selector left outcomes := h
  cases e
  exact hr

theorem witness_CommandsKeepTheTables :
    (∃ t, exec (.collect 0 []) (withEntries .reset [runningEntry .store, doneEntry]) = .next t) ∧
      CompletionsSound (withEntries .reset [runningEntry .store, doneEntry]) ∧
      AlarmsSound (State.reset.withAlarms ⟨[newRecord 0#32 .lost (.screen 3)], some (newRecord 0#32 .overflow .device), true⟩) := by
  refine ⟨⟨_, rfl⟩, ?_⟩
  unfold CompletionsSound AlarmsSound
  decide +kernel

/-- Station 3 enabled and UP with one order outstanding. -/
def enabledStation : State := (station3 .up).modLoop fun l => { l with table := { l.table with enabled := 4#8 } }

theorem witness_CommandsKeepTheStationsInWindow :
    (∃ t, exec (.frameReceived (tallyBytes 0)) enabledStation = .next t) ∧ StationsInWindow enabledStation := by
  have e2 : (enabledStation.station 2).outstanding = [⟨7, 5, 7, .port 0⟩] := by decide +kernel
  have e1 : ∀ k, k ≠ 2 → (enabledStation.station k).outstanding = [] := by decide +kernel
  refine ⟨⟨_, rfl⟩, fun k => ⟨⟨?_, ?_, ?_, ?_⟩, ?_, ?_⟩⟩
  · revert k; decide +kernel
  · revert k; decide +kernel
  · revert k; decide +kernel
  · intro j o h
    by_cases hk : k = 2
    · subst hk
      rw [e2] at h
      match j, h with
      | 0, h =>
        cases h
        decide +kernel
      | j + 1, h => cases h
    · rw [e1 k hk] at h
      cases h
  · revert k; decide +kernel
  · revert k; decide +kernel

theorem witness_CommandsKeepTheSlotsPartitioned :
    (∃ t, exec (.blockBoundary 0) (due .reset 0) = .next t) ∧ SlotsPartitioned State.reset := by
  refine ⟨⟨_, rfl⟩, ?_, fun i => ?_⟩
  · have e : State.reset.pool.free ++ screenIds.flatMap (fun i => screenSlots (State.reset.screen i)) = List.finRange 384 := by
      decide +kernel
    rw [e]
  · have e : (State.reset.equaliser i).incoming = none ∧ (State.reset.equaliser i).switch = .none := by
      revert i; decide +kernel
    simp [e.1, e.2]

theorem witness_LockProtectsTheConfiguration :
    Running lockedState ∧ (lockedState.control 0).lock = true ∧ (∃ t, exec (.blockBoundary 0) (due lockedState 0) = .next t) ∧
      Instr.blockBoundary 0 ≠ .powerOn ∧ Instr.blockBoundary 0 ≠ .resetLine ∧ RecallInTarget lockedState := by
  refine ⟨by decide +kernel, by decide +kernel, ⟨_, rfl⟩, by decide, by decide, ?_⟩
  intro _ _ _ _ _ h
  cases h

/-- A show at the last position, its cue taken, and the block after it handed over. -/
def showing : State :=
  due (((State.reset.modControl 0 fun c =>
    { c with state := .inShow, clock := .tracking 16777215, cues := [⟨5, .lock true, true, true, .done, 1⟩] }).modLane 0
      fun l => { l with receiving := ⟨some (.normal 0), 0, 0#14, none⟩ })) 0

theorem witness_CuesAreTakenUpToThePosition :
    Running showing ∧ boundaryDue (showing.screen 0) = true ∧ (showing.control 0).state = .inShow ∧
      (showing.control 0).suspension = none ∧ (showing.control 0).resumeFrom = none ∧ TakenUpTo (showing.control 0) ∧
      ∀ q, (showing.control 0).clock.position = some q → q < 2 ^ 24 ∧ HandedAfter q (handedNext (showing.screen 0).lane) := by
  refine ⟨by decide +kernel, by decide +kernel, by decide +kernel, by decide +kernel, by decide +kernel, ?_, ?_⟩
  · intro q hq _
    have e : q = ⟨5, .lock true, true, true, .done, 1⟩ := by simpa [showing, due, State.control] using hq
    subst e
    exact ⟨fun _ => ⟨16777215, rfl, by decide⟩, fun _ => rfl⟩
  · intro q hq
    have e : q = 16777215 := by
      have h : (showing.control 0).clock.position = some 16777215 := by decide +kernel
      rw [h] at hq
      cases hq
      rfl
    subst e
    exact ⟨by decide, rfl⟩

/-- The wrap of the position range takes the cue back (R134, R137). -/
theorem test_position_wraps :
    ((after (.blockBoundary 0) showing).control 0).clock = .tracking 0 ∧
      ((after (.blockBoundary 0) showing).control 0).cues.map Cue.taken = [false] := by
  decide +kernel

/-! ### Witnesses of further clauses -/

/-- The entry of a sweep on screen 1 runs: SLEEP, START SHOW and the safety input end it. -/
theorem witness_SweepsAreEnded :
    let s := sweeping 0 1 []
    (∃ e ∈ s.completions.entries, e.done = none ∧ ∃ r ∈ s.calibration, r.screen = 0 ∧ r.ticket = e.ticket) ∧
      (s.control 0).state = .idle ∧ (s.equaliser 0).switch = .none ∧
      (let t : State := { s with safety := ⟨false, some true⟩ }
       Running t ∧ t.safety.asserted = false ∧ t.safety.previous = some true ∧
         t.calibration[0]? = some ⟨1, 0, 3#16, [], some ⟨0, 1, 10, 0⟩, [], 0#16, 0#16, 0#16⟩) := by
  decide +kernel

/-- An IDLE screen whose boundary hands the stream-locked report of a position. -/
def locking (autoStart : Bool) : State :=
  due ((State.reset.modSettings 0 fun v => { v with autoStart := autoStart }).modLane 0 fun l =>
    { l with alignIn := some 0, receiving := ⟨some (.streamLocked 16777215), 0, 0#14, none⟩ }) 0

theorem witness_ShowStartsAndEnds_boundary :
    (∀ b, Running (locking b) ∧ boundaryDue ((locking b).screen 0) = true ∧ ((locking b).control 0).state = .idle ∧
        handedNext ((locking b).screen 0).lane = some (.streamLocked 16777215) ∧
        ((locking b).screen 0).settings.autoStart = b ∧ (locking b).safety.asserted = false ∧
        ((locking b).control 0).evacuationMute = false ∧ ((locking b).control 0).sleepHeld = false) ∧
      handedNext ((due .reset 0).screen 0).lane = none := by
  decide +kernel

/-- Screen 1's boundary due with a record of feed 1, a peak and a clip count. -/
def watched (r : Feed) (peak clips : Nat) (s : State := .reset) : State :=
  due (((s.modFeed 0 0 fun _ => r).modSettings 0 fun v => { v with senseFitted := 1#16 }).modPath 0 fun p =>
    { p with feeds := Tab.modify p.feeds 0 fun q => { q with peak := peak, clips := clips } }) 0

theorem witness_ClearFeedRevivesTheFeed_watch :
    let v := Settings.default
    let verified : Feed := { Feed.reset with calibration := some (-660, 4095), blockSense := some 0 }
    (∀ r peak clips, Running (watched r peak clips) ∧ boundaryDue ((watched r peak clips).screen 0) = true ∧
        (watched r peak clips).calibration = [] ∧ Tab.get ((watched r peak clips).screen 0).feeds 0 = r ∧
        (Tab.get ((watched r peak clips).screen 0).path.feeds 0).peak = peak) ∧
      ((watched .reset 0 0).control 0).state ≠ .dark ∧ ((watched .reset 0 0 (dark .reset)).control 0).state = .dark ∧
      (2 ≤ v.overBlocks ∧ 2 ≤ v.deadBlocks ∧ 2 ≤ v.hotBlocks ∧ 0 < 8 * gain (v.overThreshold - 30)) ∧
      ((watched verified 0 0).screen 0).settings.senseFitted.getLsbD 0 = true ∧
      ((watched verified 0 0).screen 0).settings.senseFitted.getLsbD 1 = false ∧
      (let expected := 4095 * (8 * gain v.deadFloor) / (8 * gain (-660))
       0 < expected / 4 ∧ 16 ≤ expected) ∧
      (4095 * 0 / (8 * gain (-660)) < 16 ∧ 2 * (64 * 8388607 / (8 * gain 0)) < 4095 ∧ 16 ≤ 64 * 8388607 / (8 * gain 0)) := by
  refine ⟨fun r peak clips => ⟨rfl, rfl, rfl, rfl, rfl⟩, ?_⟩
  decide +kernel

/-- The reply timer of station 3 has expired at this slot, and the PROBE of the station is being sent. -/
def expired (state : StationState) : State :=
  after .replyTimerExpiry (((station3 state).modStation 2 fun r => { r with timer := some 0 }).modLoop fun l =>
    { l with state := .awaiting 2 0 })

/-- The loop has become FREE in this conversion slot, with a PROBE, a resend and an order due. -/
def freed : State := (queued 1 probing).modLoop fun l => { l with freedAt := some 0 }

/-- A frame that is being sent keeps what becomes due waiting from the slot after its taking on, and before that the judgement is
open (R156). -/
theorem witness_TransmitterArbitrates_instant :
    (freed.loop.state = .free ∧ freed.loop.freedAt = some freed.scanner.slot ∧ LoopSound freed ∧
      freed.loop.congested = false ∧ freed.loop.source = none ∧ (freed.station 7).due = none ∧
      freed.loop.queue.length < 32 ∧ (arbitrate freed).loop.state = .sending (.probe 0)) ∧
      (after (.senseConversionSlot 0) (arbitrate freed)).loop.state = .sending (.probe 0) ∧
      (after (.senseConversionSlot 0) (arbitrate freed)).loop.freedAt ≠
        some (after (.senseConversionSlot 0) (arbitrate freed)).scanner.slot := by
  unfold LoopSound QueueBounded
  decide +kernel

/-- The end of a broadcast's transmission with one order queued, and the samples that assert the safety input after it. -/
def ended : State :=
  after .frameTransmissionEnd ((queued 1 (sendingFrame (.broadcast 9 1 1 none) .reset)).modLoop fun l =>
    { l with table := { l.table with evacuation := some ⟨15, 3, 0⟩ } })
def evacuating (s : State) : State := after (.safetyInputSample true) (after (.safetyInputSample true) s)

/-- An evacuation order that fills its slot at the instant at which the loop becomes FREE is sent before the order that the
transmitter has taken by then, which keeps its place; a conversion slot later it waits (R156). -/
theorem test_due_as_the_loop_becomes_free :
    ended.loop.state = .sending (.broadcast 9 1 0 (some (.port 1))) ∧ ended.loop.queue = [] ∧
      (evacuating ended).loop.state = .sending (.broadcast 15 3 0 none) ∧
      (evacuating ended).loop.queue = [⟨.broadcast 9, 1, 0, .port 1⟩] ∧
      (let later := evacuating (after (.senseConversionSlot 0) ended)
       later.loop.state = ended.loop.state ∧ later.loop.evacuationSlot = some ⟨15, 3, 0⟩) := by
  decide +kernel

/-- A TALLY at the instant of the expiry acknowledges, and the PROBE that the expiry made due is not sent (R151, R159). -/
theorem test_tally_at_an_expiry :
    (after (.frameReceived (tallyBytes 0)) (expired .up)).loop.state = .free ∧
      ((after (.frameReceived (tallyBytes 0)) (expired .up)).station 2).outstanding = [] := by
  decide +kernel

/-- The loop with a retry limit. -/
def limited (n : Nat) (s : State) : State := s.modLoop fun l => { l with table := { l.table with retryLimit := n } }

/-- The TALLY of the instant of an expiry is gathered, before the frame that the transmitter has taken; a slot later a frame that
is being sent keeps it out (R151, R156). -/
theorem witness_GathersAtAnExpiry :
    (expired .up).loop.state = .sending (.probe 2) ∧ (expired .up).loop.expiredAt = some (expired .up).scanner.slot ∧
      ((expired .up).station 2).state = .up ∧ (reopen (expired .up)).loop.state = .free ∧
      tallyOf (tallyBytes 0) = some ⟨2, true, false, 0, some 11⟩ ∧
      (after (.senseConversionSlot 0) (expired .up)).loop.expiredAt ≠
        some (after (.senseConversionSlot 0) (expired .up)).scanner.slot ∧
      (sendingFrame (.probe 2) .reset).loop.expiredAt ≠ some (sendingFrame (.probe 2) .reset).scanner.slot := by
  decide +kernel

/-- A TALLY of number 3 is out of range in UP and brings no join in JOINING; the retry limit takes one more request, none, or
any number. -/
theorem witness_TalliesOutOfRange :
    tallyOf (tallyBytes 3) = some ⟨2, true, false, 3, some 11⟩ ∧
      (∀ j, j ≤ ((station3 .up).station 2).outstanding.length → (3 : Nat) ≠ (((station3 .up).station 2).oldest + j) % 8) ∧
      ((station3 .joining).station 2).state = .joining ∧ ((station3 .absent).station 2).state = .absent ∧
      (station3 .absent).loop.state.isAwaiting 2 = false ∧
      (limited 7 .reset).loop.table.retryLimit = 7 ∧
      min 255 (((station3 .up).station 2).retry + 1) ≤ (limited 1 .reset).loop.table.retryLimit ∧
      (limited 0 .reset).loop.table.retryLimit < min 255 (((station3 .up).station 2).retry + 1) := by
  refine ⟨by decide +kernel, ?_, by decide +kernel⟩
  intro j h
  have e : ((station3 .up).station 2).outstanding.length = 1 ∧ ((station3 .up).station 2).oldest = 7 := by decide +kernel
  omega

/-- A render table load of one row set, FOURTEEN, whose first row has the flag and one term, at a level below the range. -/
def rowSetBytes : List Byte := [6#8, 0x81#8, 14#8, 0xFC#8, 0x17#8, 1#8] ++ List.replicate 15 0#8
def rowSets : List (Nat × List RawRow) := [(6, (true, [[14#8, 0xFC#8, 0x17#8, 1#8]]) :: List.replicate 15 (false, []))]

/-- Row sets of every format with `n` terms in each of their rows. -/
def fullRows (n : Nat) : List RawRow := List.replicate 16 (false, List.replicate n [1#8, 0#8, 0#8, 0#8])
def fullSets (n : Nat) : List (Nat × List RawRow) := (List.range 7).map fun f => (f + 1, fullRows n)
def fullBytes (n : Nat) : List Byte :=
  (List.range 7).flatMap fun f =>
    BitVec.ofNat 8 (f + 1) :: (List.replicate 16 (BitVec.ofNat 8 n :: (List.replicate n [1#8, 0#8, 0#8, 0#8]).flatten)).flatten
def fullTable (n : Nat) : RenderTable := Tab.all (Tab.all ⟨false, List.replicate n ⟨0, 0, false⟩⟩)

/-- The row sets of a RENDER TABLE load and of a RENDER record. -/
theorem witness_rowSets :
    takeRowSets 22 rowSetBytes = some rowSets ∧ RowSetsFit rowSets ∧
      TableTaken rowSets defaultRenderTable
        (Tab.set defaultRenderTable 5 (Tab.set (Tab.all ⟨false, []⟩) 0 ⟨true, [⟨13, -960, true⟩]⟩)) := by
  refine ⟨rfl, by unfold RowSetsFit; decide +kernel, fun f => ⟨?_, ?_⟩⟩
  · revert f; decide +kernel
  · intro rows h g flag members hr
    have e : (f.val + 1, rows) = (6, (true, [[14#8, 0xFC#8, 0x17#8, 1#8]]) :: List.replicate 15 (false, [])) := by
      simpa [rowSets] using h
    have hf : f = 5 := Fin.ext (by have := congrArg Prod.fst e; simp at this; exact this)
    have hrows := congrArg Prod.snd e
    simp only at hrows
    subst hf hrows
    fin_cases g <;> cases hr <;> decide +kernel

set_option maxRecDepth 8000 in
/-- Row sets whose terms pass the budget. -/
theorem witness_fullSets :
    takeRowSets 1017 (fullBytes 2) = some (fullSets 2) ∧ RowSetsFit (fullSets 2) ∧ termTotal (fullTable 1) ≤ 192 ∧
      192 < termTotal (fullTable 2) ∧ ∀ old, TableTaken (fullSets 2) old (fullTable 2) := by
  refine ⟨rfl, by unfold RowSetsFit; decide +kernel, by decide +kernel, by decide +kernel, fun old f => ⟨?_, ?_⟩⟩
  · intro h
    exact absurd rfl (h (f.val + 1, fullRows 2) (List.mem_map.2 ⟨f.val, List.mem_range.2 f.isLt, rfl⟩))
  · intro rows h g flag members hr
    obtain ⟨k, _, e⟩ := List.mem_map.1 h
    cases e
    have e : (flag, members) = (false, List.replicate 2 [1#8, 0#8, 0#8, 0#8]) := by
      have e := List.getElem?_replicate (n := 16) (a := (false, List.replicate 2 [1#8, 0#8, 0#8, 0#8])) (i := g.val)
      rw [if_pos g.isLt] at e
      exact Option.some.inj (hr.symm.trans e)
    cases e
    revert g f
    decide +kernel

/-- Stabilisation with one mapped record. -/
def coming (r : RecordId) (bytes : List Byte) (s : State := .reset) : State :=
  { mapped r (recordPlace r bytes) s with power := .stabilising true }

def deviceBytes : List Byte := recordContent .reset deviceRecord
def settingsRecord : List Byte := recordContent .reset (screenRecord 0 0)

/-- Cue records of one cue, many times over. -/
def cueBytes (n : Nat) : List Byte := (List.replicate n cueRecord).flatten

theorem witness_StartUpRuns_records :
    (∀ x ∈ [(deviceRecord, deviceBytes), (screenRecord 0 0, settingsRecord), (screenRecord 0 1, 1#8 :: rowSetBytes),
        (screenRecord 3 2, 4#8 :: cueBytes 2), (screenRecord 0 4, presetBytes), (screenRecord 0 1, [1#8, 9#8])],
      (coming x.1 x.2).power = .stabilising true ∧
      Tab.get (after (.stabilisationEnd false false) (coming x.1 x.2)).store.map x.1 = some (homePlace x.1) ∧
      (Tab.get (coming x.1 x.2).store.places (homePlace x.1)).read = some x.2) ∧
      ({ recordPlace 0 [] with checksum := 1 } : Place).read = none ∧
      recordName deviceRecord = .device ∧ recordName (screenRecord 0 0) = .settings 0 ∧
      recordName (screenRecord 0 1) = .render 0 ∧ recordName (screenRecord 3 2) = .cues 3 ∧
      recordName (screenRecord 0 4) = .preset 0 1 := by
  decide +kernel

/-- The contents of the records fit their forms, or do not. -/
theorem witness_records_fit :
    deviceBytes.length = 66 ∧ deviceBytes.getD (2 * (0 : PortId).val + 1) 0#8 ≠ 0#8 ∧
      LineBytesFit ((deviceBytes.drop 10).take 48) ∧ (stationTableOf (deviceBytes.drop 58)).isSome = true ∧
      settingsRecord.length = 122 ∧ (settingsOf (settingsRecord.take 42)).isSome = true ∧
      (∀ f : FeedId, (settingsRecord.getD (42 + 5 * f.val) 0#8).toNat ≤ 1) ∧
      (∀ n ∈ [0, 2, 256, 257], (wholeMembers 12 (cueBytes n)).isSome = true ∧
        (((wholeMembers 12 (cueBytes n)).bind fun m => readAll (cueOf fun _ => true) m).map List.length) = some n) ∧
      wholeMembers 12 [0#8] = none ∧ readAll (cueOf fun _ => true) [List.replicate 12 0#8] = none ∧
      (presetRecordOf 1 presetBytes).isSome = true ∧ presetRecordOf 1 [] = none ∧
      takeRowSets 2 [9#8] = none := by
  unfold LineBytesFit
  decide +kernel

/-- The cues of the two screens' records together do not fit the cue memory. -/
theorem witness_StartUpRuns_cues :
    let s := coming (screenRecord 1 2) (2#8 :: cueBytes 128) (coming (screenRecord 0 2) (1#8 :: cueBytes 129))
    let t := after (.stabilisationEnd false false) s
    (t.control 0).cues.length = 129 ∧ 256 < 129 + 128 ∧ Tab.get t.store.faults (screenRecord 1 2) = true ∧
      (t.control 1).cues = [] ∧ Tab.get t.store.map (screenRecord 1 2) = some (homePlace (screenRecord 1 2)) := by
  decide +kernel

/-- A window that closes the staging of a content. -/
def closing (t : LoadTarget) (bytes : List Byte) (s : State := .reset) : State :=
  staged t bytes (0x22#8 :: bytesOf 2 bytes.length) s

/-- The cue memory is full of another screen's cues. -/
def crowded : State := State.reset.modControl 3 fun c =>
  { c with cues := List.replicate 256 ⟨3, .source .mute, true, false, .none, 0⟩ }

theorem witness_CloseLoadJudgesAndCommits_targets :
    (∀ x ∈ [(LoadTarget.renderTable, 1#8 :: rowSetBytes), (.renderTable, [1#8]), (.renderTable, [1#8, 1#8]),
        (.renderTable, []), (.renderTable, [5#8, 1#8]), (.cueList, 1#8 :: cueBytes 1), (.cueList, [1#8, 0#8]),
        (.preset, [1#8]), (.preset, [1#8, 4#8]), (.preset, presetBytes), (.preset, []), (.settings, settingsContent),
        (.settings, [1#8]), (.settings, List.replicate 42 0#8), (.lineTable, List.replicate 48 0#8), (.lineTable, []),
        (.lineTable, List.replicate 48 9#8), (.accessTable, accessContent), (.accessTable, List.replicate 10 0#8),
        (.accessTable, []), (.stationTable, stationContent), (.stationTable, []), (.stationTable, List.replicate 8 0xFF#8)],
      Executing (closing x.1 x.2) 0 0x22#8 (bytesOf 2 x.2.length) ∧
        ((closing x.1 x.2).port 0).staging = .opened x.1 x.2 x.2.length) ∧
      (∀ body ∈ [[], [1#8]], body = [] ∨ takeRowSets (1 + body.length) body = none) ∧
      readAll (cueOf fun l => (State.reset.line l).accepts 0) [List.replicate 12 0#8] = none ∧
      cueRoom crowded 0 < 1 ∧ LineBytesFit (List.replicate 48 0#8) ∧ ¬ LineBytesFit (List.replicate 48 9#8) ∧
      stationTableOf (List.replicate 8 0xFF#8) = none ∧
      (let marked := State.reset.modEqualiser 0 fun e => { e with commissioned := some (Tab.all 0) }
       (marked.equaliser 0).commissioned.isSome = true) ∧
      (let cutting := State.reset.modEqualiser 0 fun e => { e with switch := .cutOut ⟨1, .openingReturn⟩ 0 }
       (cutting.equaliser 0).switch = .cutOut ⟨1, .openingReturn⟩ 0) ∧
      (settingsOf (1#8 :: List.replicate 41 0xFF#8)).isNone = true ∧
      (State.reset.loop.table.enabled.getLsbD 0 = false ∧ (255#8).getLsbD 0 = true) ∧
      (enabledStation.loop.table.enabled.getLsbD 2 = true ∧ (251#8).getLsbD 2 = false) := by
  unfold LineBytesFit
  decide +kernel

theorem witness_CloseLoadJudgesAndCommits_preset_refused : ∃ r, presetOf [0#8] = .error r := ⟨_, rfl⟩

/-- A RECALL reads a record of its target with a content. -/
def recalling (t : StoreTarget) (r : RecordId) (bytes : List Byte) (s : State := .reset) : State :=
  setOp (withEntries (mapped r (recordPlace r bytes) s) [runningEntry .store]) (.recallStored 1 t 0 [r] [])

theorem witness_ReadsAndErasuresComplete_records :
    (∀ x ∈ [(StoreTarget.device, deviceRecord, deviceBytes), (.device, deviceRecord, []),
        (.screen 0, screenRecord 0 0, recordContent .reset (screenRecord 0 0)), (.screen 0, screenRecord 0 0, []),
        (.screen 0, screenRecord 0 1, 1#8 :: rowSetBytes), (.screen 0, screenRecord 0 1, [1#8, 9#8]),
        (.screen 3, screenRecord 3 2, 4#8 :: cueBytes 1), (.screen 3, screenRecord 3 2, 4#8 :: List.replicate 12 0#8),
        (.screen 0, screenRecord 0 4, [])],
      let s := recalling x.1 x.2.1 x.2.2
      Running s ∧ CompletionsSound s ∧ s.store.op = .recallStored 1 x.1 0 [x.2.1] [] ∧ RunningEntry s 1 ∧
        Tab.get s.store.map x.2.1 = some (homePlace x.2.1) ∧
        (Tab.get s.store.places (homePlace x.2.1)).read = some x.2.2) ∧
      (State.reset.control 3).state ≠ .inShow ∧ ((inShow .reset).control 0).state = .inShow ∧
      cueRoom (recalling (.screen 0) (screenRecord 0 2) (1#8 :: cueBytes 1) crowded) 0 < 1 ∧
      1 ≤ cueRoom (recalling (.screen 3) (screenRecord 3 2) (4#8 :: cueBytes 1)) 3 := by
  unfold CompletionsSound RunningEntry
  decide +kernel

/-- A boundary of screen 1 after a RAMP_OUT, with MATRIX due. -/
def ramping (s : State := .reset) : State :=
  due ((s.modRenderer 0 fun r => { r with ramp := .rampOut }).modLane 0 fun l =>
    { l with stream := .locked, format := 2, receiving := ⟨some (.normal 7), 0, 0#14, none⟩ }) 0

/-- A free list of the first `n` slots. -/
def scarce (n : Nat) (s : State := .reset) : State := s.modPool fun p => { p with free := p.free.take n }

/-- Feed 2 covers feed 1, which is DEAD or was until this boundary's sweep. -/
def covering (r : Feed) : State :=
  due ((State.reset.modFeed 0 0 fun _ => r).modSettings 0 fun v => { v with cover := Tab.set v.cover 0 (some 1) }) 0

theorem witness_GatesMoveAtABoundary_renderer :
    (Running ramping ∧ boundaryDue (ramping.screen 0) = true ∧ (ramping.screen 0).renderer.ramp = .rampOut ∧
      (ramping.screen 0).renderer.filter = .notHeld ∧ (ramping.equaliser 0).switch = .none ∧
      (ramping.equaliser 0).pending = none ∧ claimedCount ramping + 2 ≤ ramping.pool.free.length ∧
      ramping.pool.free.head? = some 0 ∧ ((after (.blockBoundary 0) ramping).screen 0).renderer.current.format = .program 2) ∧
      (scarce 1 ramping).pool.free.length < claimedCount (scarce 1 ramping) + 2 ∧
      ((due .reset 0).screen 0).renderer.ramp ≠ .rampOut ∧
      (let held := (ramping).modRenderer 0 fun r => { r with filter := .held 5 6, selected := .mute }
       (held.screen 0).renderer.filter = .held 5 6 ∧
         ((after (.blockBoundary 0) held).screen 0).renderer.current.format ≠ .program 2) ∧
      (∀ r ∈ [{ Feed.reset with dead := true }, { Feed.reset with revived := true }],
        (r.dead = true ∨ r.revived = true) ∧ Tab.get ((covering r).screen 0).feeds 0 = r ∧
          Tab.get ((covering r).screen 0).settings.cover 0 = some 1 ∧ (covering r).calibration = [] ∧
          (Tab.get ((after (.blockBoundary 0) (covering r)).screen 0).renderer.covers 1).joining = some 0) := by
  decide +kernel

/-- A request of preset 1, of one section on feed 1, is pending at a due boundary; `n` slots are free and the feed's chain has a
section or none. -/
def deciding (n : Nat) (chain : List SlotId) : State :=
  due ((scarce n (withEntries .reset [runningEntry .selectPreset])).modEqualiser 0 fun e =>
    { e with
      pending := some ⟨1, .command 1⟩
      bank := Tab.set e.bank 1 (Tab.modify Preset.factory 0 fun x => { x with sections := [⟨0#24, 0#24, 0#24, 0#24, 0#24⟩] })
      running := Tab.modify e.running 0 fun x => { x with chain := chain } }) 0

theorem witness_SwitchesEnd_decision :
    (∀ x ∈ [(1, []), (0, [383]), (0, ([] : List SlotId))],
      let s := deciding x.1 x.2
      Running s ∧ CompletionsSound s ∧ BoundaryOpen s 0 .switchProgress ∧ (s.equaliser 0).switch = .none ∧
        (s.equaliser 0).pending = some ⟨1, .command 1⟩ ∧ s.pool.free.Nodup ∧
        totalSections (Tab.get (s.equaliser 0).bank 1) = 1 ∧ s.pool.free.length - claimedCount s = x.1 ∧
        (recordSlots (s.equaliser 0).running).length = x.2.length ∧ RunningEntry s 1 ∧ s.calibration = []) := by
  unfold CompletionsSound RunningEntry
  decide +kernel

/-- A switch of screen 1 that ends with the request of its first cue in the pending place, in a show that advances; preset 1 needs
one section of the `n` slots that are free. -/
def chained (w : Request → Switch) (n : Nat) : State :=
  (due (((deciding n []).modEqualiser 0 fun e =>
    { e with switch := w ⟨2, .command 1⟩, incoming := some e.running, pending := some ⟨1, .cue ⟨0, 0, 7⟩⟩ }).modControl 0
      fun c => { c with state := .inShow, clock := .tracking 4, cues := [⟨3, .preset 1, true, true, .none, 7⟩] }) 0).modLane 0
    fun l => { l with receiving := ⟨some (.normal 5), 0, 0#14, none⟩ }

theorem witness_SwitchesEnd_pending :
    (∀ w ∈ [Switch.crossfade, .cutIn, fun _ => .none], ∀ n ∈ [0, 1],
      let s := chained w n
      let e := s.equaliser 0
      Running s ∧ CompletionsSound s ∧ BoundaryOpen s 0 .switchProgress ∧ e.switch = w ⟨2, .command 1⟩ ∧
        e.incoming = some e.running ∧ e.pending = some ⟨1, .cue ⟨0, 0, 7⟩⟩ ∧ RunningEntry s 1 ∧
        (s.pool.free ++ recordSlots e.running).Nodup ∧ totalSections (Tab.get e.bank 1) = 1 ∧
        s.pool.free.length - claimedCount s = n ∧ (s.control 0).cues[0]? = some ⟨3, .preset 1, true, true, .none, 7⟩ ∧
        (s.screen 0).renderer.ramp ≠ .rampOut ∧
        poolReport s 0 ⟨0, 0, 7⟩ = some (if n = 1 then .done else .failedPool)) ∧
      ∀ w n, CuesStayTaken (chained w n) 0 := by
  unfold CompletionsSound RunningEntry
  refine ⟨by decide +kernel, fun w n => .inr (.inr ⟨rfl, .inr ⟨rfl, _, _, .trackingNormal 4 5, .inr ⟨5, rfl⟩⟩⟩)⟩

/-- The cue hears of the decision at the boundary, in SHOW. -/
theorem test_a_cue_is_told_in_show :
    ∀ x ∈ [(1, CueOutcome.done), (0, .failedPool)],
      ((after (.blockBoundary 0) (chained .crossfade x.1)).control 0).cues[0]? =
        some ⟨3, .preset 1, true, true, x.2, 7⟩ := by
  decide +kernel

/-- The sweep of screen 1 with requests behind it. -/
def followed (reading step : Nat) (left : List FeedId) (behind : List CalRequest) : State :=
  (due (withEntries .reset [runningEntry (.calibrate 0 3#16), ⟨2, 1, .calibrate 0 1#16, none⟩]) 0).withCalibration
    (⟨1, 0, 3#16, left, some ⟨0, step, 10, reading⟩, [], 0#16, 0#16, 0#16⟩ :: behind)

theorem witness_CalibrationStepsEnd_queue :
    let next (i : ScreenId) (left : List FeedId) : CalRequest := ⟨2, i, 0x8000#16, left, none, [], 0#16, 0#16, 0#16⟩
    (∀ x ∈ [([], []), ([1], []), ([], [next 0 [15]]), ([], [next 1 [15]])],
      let s := followed 3968 10 x.1 x.2
      Running s ∧ BoundaryOpen s 0 .calibration ∧ RunningEntry s 1 ∧ RunningEntry s 2 ∧
        s.calibration.map CalRequest.ticket = 1 :: x.2.map CalRequest.ticket) ∧
      ((followed 64 1 [1] []).screen 0).settings.senseFitted.getLsbD 1 = true ∧
      (let none_ := (followed 64 1 [1] [next 0 [15]]).modSettings 0 fun v => { v with senseFitted := 1#16 }
       (∀ f ∈ [1, 15], (none_.screen 0).settings.senseFitted.getLsbD f = false) ∧ Running none_) := by
  unfold RunningEntry
  decide +kernel

theorem witness_SamplePeriodAdvances_stages :
    let filtering := State.reset.modRenderer 0 fun r =>
      { r with
        filter := .held 5 6
        current := { r.current with source := .program, format := .program 2, rows := some (Tab.get r.table 1) } }
    Filtering (filtering.screen 0) = true ∧ (filtering.screen 0).renderer.filter = .held 5 6 ∧
      (State.reset.screen 0).path.screenGate ≠ .closed ∧ (State.reset.equaliser 0).incoming = none ∧
      ((switching .crossfade).equaliser 0).incoming = some ((switching .crossfade).equaliser 0).running := by
  decide +kernel

/-- R151: the TALLY of the instant of an expiry acknowledges; one slot later it finds the part sending. -/
theorem test_tally_at_the_expiry :
    ((after (.frameReceived (tallyBytes 0)) (expired .up)).station 2).outstanding = [] ∧
      ((after (.frameReceived (tallyBytes 0)) (after (.senseConversionSlot 0) (expired .up))).station 2).outstanding ≠ [] := by
  decide +kernel

/-- R90: the dead gate of a feed that a sweep's VERIFIED result revives opens at the boundary after that of the result. -/
theorem test_revived_feed_opens_a_block_later :
    let s := (followed 64 1 [] []).modFeed 0 0 fun r => { r with dead := true }
    let closed := s.modPath 0 fun p => { p with feeds := Tab.modify p.feeds 0 fun q => { q with deadGate := .closed } }
    let t := after (.blockBoundary 0) closed
    let u := after (.blockBoundary 0) (due t 0)
    (Tab.get (t.screen 0).feeds 0).dead = false ∧ (Tab.get (t.screen 0).path.feeds 0).deadGate = .closed ∧
      (Tab.get (u.screen 0).path.feeds 0).deadGate = .opening := by
  decide +kernel

/-- R7, R31: a format taken at the lock stands, whatever change the block of loss still carries. -/
theorem test_relock_keeps_the_format :
    let s := (hearing .verify ⟨255, 3, 485⟩).modLane 0 fun l =>
      { l with rendering := ⟨some (.streamLost 4), 0, 0#14, some 6⟩ }
    let t := after (.blockBoundary 0) (due (after (.wordFrameArrival 0 lastWord) s) 0)
    (t.screen 0).lane.format = 3 := by
  decide +kernel

/-- An automatic start that a held SLEEP prevents. -/
theorem witness_ShowStartsAndEnds_held :
    let s := sleepHeld (locking true)
    Running s ∧ boundaryDue (s.screen 0) = true ∧ (s.control 0).state = .idle ∧ (s.control 0).sleepHeld = true ∧
      handedNext (s.screen 0).lane = some (.streamLocked 16777215) := by
  decide +kernel

/-- A format notice with a count, and a change it takes. -/
def noted (count : NoticeCount) (s : State) : State :=
  s.modLane 0 fun l => { l with format := 6, notice := { l.notice with count := count } }

theorem witness_StreamLocks_notice :
    (∀ n ∈ [NoticeCount.zero, .one, .two, .more],
      let l := ((noted n (hearing .verify ⟨255, 3, 485⟩)).screen 0).lane
      l.stream = .verify ∧ l.candidate = some ⟨255, 3, 485⟩ ∧ l.heard 0xC3A51E#24 w1 9#24 w3 w4 ∧ l.notice.count = n ∧
        (3 : FormatCode) ≠ l.format) ∧
      (let s := (noted .zero (judging 0)).modLane 0 fun l => { l with formatCandidate := some 3 }
       (s.screen 0).lane.formatCandidate = some 3 ∧ (s.screen 0).lane.stream = .holdover ∧
         (3 : FormatCode) ≠ (s.screen 0).lane.rendering.change.getD (s.screen 0).lane.format) := by
  unfold Lane.heard
  decide +kernel

/-- R16: the second and the third change of format keep the first and move the latest. -/
theorem test_notice_takes_changes :
    let l := ((after (.wordFrameArrival 0 lastWord) (noted .two (hearing .verify ⟨255, 3, 485⟩))).screen 0).lane
    l.notice.count = .more ∧ l.notice.latest = some ⟨6, 3, 9⟩ ∧ l.notice.more = true := by
  decide +kernel

theorem witness_StoreCommandsBegin_refused :
    let busy (s : State) : State := setOp s (.commission ⟨0, 0, []⟩)
    let strapped (s : State) : State := { s with straps := { s.straps with storeBypass := true } }
    let full (s : State) : State := withEntries s ((List.range 8).map fun k => ⟨k + 1, 0, .store, none⟩)
    let lock (s : State) : State := s.modControl 0 fun c => { c with lock := true }
    let bytes : List (List Byte) := [[0x23#8, 1#8], [0x23#8, 0#8], [0x24#8, 1#8, 0#8], [0x25#8, 1#8], [0x26#8, 1#8]]
    (∀ w ∈ bytes, ∀ f ∈ [busy, strapped, full, lock, inShow, fun s => busy (dark s), fun s => strapped (dark s)],
      let s := issue (f .reset) w
      Executing s 0 (w.headD 0#8) w.tail ∧ Covers s 0 0 ∧ HasHouse s 0) ∧
      (∀ w ∈ bytes, ¬ Covers (rightless w) 0 0 ∧ ¬ HasHouse (rightless w) 0) ∧
      (busy .reset).store.op ≠ .none ∧ 8 ≤ (full .reset).completions.entries.length ∧
      (4 < (5#8 : Byte).toNat ∧ 7 < (8#8 : Byte).toNat) ∧
      Executing (issued [0x24#8, 1#8, 8#8]) 0 0x24#8 [1#8, 8#8] ∧ Executing (issued [0x23#8, 5#8]) 0 0x23#8 [5#8] := by
  decide +kernel

/-- R189, R192: WIPE SCREEN outside DARK is WRONG_STATE while an operation runs, and BUSY in DARK. -/
theorem test_wipe_refused :
    let busy (s : State) : State := setOp s (.commission ⟨0, 0, []⟩)
    let wiped (s : State) : State := after (.wipeScreen 0 [1#8]) (issue s [0x25#8, 1#8])
    reason (wiped (busy .reset)) = some .wrongState ∧ reason (wiped (busy (dark .reset))) = some .busy := by
  decide +kernel

/-- A show of screen 1 with a cue of every kind at position 5, at a boundary that hands a report. -/
def everyCue : List Cue :=
  [.fade (-40) 300, .preset 1, .source .mute, .lineSet 2, .lineClear 3, .linePulse 3 50, .order 9 5 0, .order 2 5 0,
    .lock true].map fun a => ⟨5, a, true, false, .none, 0⟩
def cued (clock : ShowClock) (r : Option Report) : State :=
  due (((State.reset.modControl 0 fun c => { c with state := .inShow, clock := clock, cues := everyCue }).modLane 0
    fun l => { l with receiving := ⟨r, 0, 0#14, none⟩ }).modLine 2 fun x => { x with owner := .screen 1 }) 0

theorem witness_FadesPulsesAndFreeRunsEnd_rows :
    (∀ x ∈ [(ShowClock.waiting, some (Report.normal 5)), (.waiting, some (.streamLost 5)), (.waiting, none),
        (.tracking 4, some (.normal 5)), (.tracking 9, some (.jump 9 5)), (.tracking 4, some (.jump 4 5)),
        (.tracking 4, some (.streamLost 5)), (.freeRun 4 0, none), (.freeRun 4 300, none),
        (.freeRun 4 0, some (.streamLocked 5)), (.freeRun 4 0, some (.streamLocked 9)), (.frozen 4, some (.streamLocked 5)),
        (.frozen 9, some (.streamLocked 5)), (.frozen 4, none)],
      let s := cued x.1 x.2
      Running s ∧ boundaryDue (s.screen 0) = true ∧ (s.control 0).state = .inShow ∧ (s.control 0).sleepHeld = false ∧
        (s.control 0).clock = x.1 ∧ handedNext (s.screen 0).lane = x.2 ∧ (s.screen 0).settings.autoEnd = false ∧
        (s.screen 0).settings.freeRunLimit = 300 ∧ (s.control 0).suspension = none ∧ (s.control 0).resumeFrom = none ∧
        (s.control 0).cues = everyCue) ∧
      ClockRow 300 .waiting (some (.normal 5)) (.tracking 5) (.start 5) ∧
      ClockRow 300 .waiting (some (.streamLost 5)) (.freeRun 5 0) (.start 5) ∧
      ClockRow 300 .waiting none .waiting .none ∧
      ClockRow 300 (.tracking 4) (some (.normal 5)) (.tracking 5) (.advance 5) ∧
      ClockRow 300 (.tracking 9) (some (.jump 9 5)) (.tracking 5) (.chase 9 5) ∧
      ClockRow 300 (.tracking 4) (some (.jump 4 5)) (.tracking 5) (.chase 4 5) ∧
      ClockRow 300 (.tracking 4) (some (.streamLost 5)) (.freeRun 5 0) (.advance 5) ∧
      ClockRow 300 (.freeRun 4 0) none (.freeRun 5 1) (.advance 5) ∧
      ClockRow 300 (.freeRun 4 300) none (.frozen 4) .none ∧
      ClockRow 300 (.freeRun 4 0) (some (.streamLocked 5)) (.tracking 5) (.advance 5) ∧
      ClockRow 300 (.freeRun 4 0) (some (.streamLocked 9)) (.tracking 9) (.chase 4 9) ∧
      ClockRow 300 (.frozen 4) (some (.streamLocked 5)) (.tracking 5) (.advance 5) ∧
      ClockRow 300 (.frozen 9) (some (.streamLocked 5)) (.tracking 5) (.chase 9 5) ∧
      ClockRow 300 (.frozen 4) none (.frozen 4) .none ∧
      ClockRow 300 (.tracking 16777215) (some (.normal 0)) (.tracking 0) (.chase 16777215 0) ∧
      ∀ q ∈ everyCue, ∀ address code argument, q.action = .order address code argument → 1 ≤ address ∧ address ≤ 15 := by
  refine ⟨by decide +kernel, .waitingNormal 5, .waitingLost 5, .waitingNothing, .trackingNormal 4 5, .trackingJump 9 9 5,
    .trackingJump 4 4 5, .trackingLost 4 5, .freeRunOn 4 0 (by decide), .freeRunStops 4 300 (by decide),
    .freeRunExpected 4 0, .freeRunElsewhere 4 0 9 (by decide), .frozenExpected 4, .frozenElsewhere 9 5 (by decide),
    .frozenNothing 4, .trackingNormal 16777215 0, ?_⟩
  intro q hq a c g h
  fin_cases hq <;> simp_all <;> omega

/-- A suspended show, and one whose resume chase is due. -/
def suspended : State := showing.modControl 0 fun c => { c with suspension := some (some 16777215) }
def resuming (from_ : Option Nat) : State := showing.modControl 0 fun c =>
  { c with resumeFrom := some from_, cues := [⟨5, .lock true, true, from_.isSome, .none, 1⟩] }

theorem witness_CuesAreTakenUpToThePosition_resumed :
    (Running suspended ∧ boundaryDue (suspended.screen 0) = true ∧ (suspended.control 0).state = .inShow ∧
      (suspended.control 0).suspension = some (some 16777215)) ∧
      ∀ o ∈ [none, some 16777215], Running (resuming o) ∧ boundaryDue ((resuming o).screen 0) = true ∧
        ((resuming o).control 0).state = .inShow ∧ ((resuming o).control 0).suspension = none ∧
        ((resuming o).control 0).resumeFrom = some o ∧ ((resuming o).control 0).sleepHeld = false ∧
        ((resuming o).control 0).cues.map (fun q => (q.time, q.taken)) = [(5, o.isSome)] := by
  decide +kernel

/-- R140 to R142, R145: the cues of one normal advance and their outcomes; line 3 is screen 2's, station 2 is not there. -/
theorem test_cues_are_executed :
    let t := after (.blockBoundary 0) (cued (.tracking 4) (some (.normal 5)))
    (t.control 0).cues.map Cue.outcome =
        [.done, .none, .done, .none, .done, .done, .pending, .failedStation, .done] ∧
      (t.control 0).move = .fade 0 (-40) 300 0 ∧ (t.line 2).flag = false ∧ (t.line 3).pulse = 50 := by
  decide +kernel

/-- R137: a forward chase over the same cues passes the events over. -/
theorem test_cues_are_chased :
    let t := after (.blockBoundary 0) (cued (.tracking 4) (some (.jump 4 5)))
    (t.control 0).cues.map Cue.outcome = [.done, .none, .done, .none, .done, .none, .none, .none, .done] ∧
      (t.control 0).move = .setNext (-40) ∧ (t.line 3).pulse = 0 ∧ t.loop.queue = [] := by
  decide +kernel

/-- The non-sync source at full scale, raised by 12 dB on feed 1, behind a CLOSED screen gate. -/
def clipping : State :=
  let rows : RowSet := Tab.set (Tab.all ⟨false, []⟩) 0 ⟨false, [⟨0, 120, false⟩]⟩
  let s := (State.reset.modRenderer 0 fun r =>
    { r with current := { source := .nonsync, format := .ns, rows := some rows, surroundDelay := none } }).modPath 0
      fun p => { p with screenGate := .closed }
  { s with nonSync := ⟨none, List.replicate 480 (0x7FFFFF#24, 0#24)⟩ }

/-- R51, R53, R58: a render stage that saturates behind a CLOSED screen gate counts no clip event, and its feed sends 0; behind the
CLOSED gate of the evacuation mute it counts one. -/
theorem test_clips_behind_the_gates :
    let feed (s : State) : FeedPath := Tab.get ((after .samplePeriod s).screen 0).path.feeds 0
    let p := feed clipping
    let q := feed (clipping.modPath 0 fun p => { p with screenGate := .opened, evacuationGate := .closed })
    p.clips = 0 ∧ p.output = 0#24 ∧ p.memory.head? = some 0x7FFFFF#24 ∧ q.clips = 1 ∧ q.output = 0#24 := by
  decide +kernel

theorem witness_SamplePeriodAdvances_closed :
    Running clipping ∧ (clipping.screen 0).path.screenGate = .closed ∧
      (clipping.screen 0).renderer.current.rows.isSome = true ∧ clipping.calibration = [] := by
  decide +kernel

/-! ### The clauses that stand beside the first ones -/

/-- An alarm table of `n` ordinary records, of which the first is of the feed 1 of screen 1 in a state. -/
def tableOf (n : Nat) (x : AlarmState) (overflow : Option AlarmRecord) : AlarmTable :=
  ⟨(List.range n).map fun k => { newRecord 0#32 (if k < 16 then .dead else if k < 32 then .hot else if k < 48 then .clip
    else .overLevel) (.feed 0 (Fin.ofNat 16 k)) with state := if k = 0 then x else .raised }, overflow, overflow.isSome⟩

/-- R100, R102: a start finds no record, with room and without, an ENDED one, and with OVERFLOW standing none at all; an end finds
a RAISED and a HELD one, and leaves 47 or 48 records. -/
theorem witness_AcknowledgedRecordsMove_changes :
    let mine (r : AlarmRecord) : Prop := r.kind = .dead ∧ r.scope = .feed 0 0
    let other (r : AlarmRecord) : Prop := r.kind = .lost ∧ r.scope = .screen 3
    (∀ n ∈ [0, 62, 63], (tableOf n .raised none).ordinary.length = n ∧
      (tableOf n .raised none).overflowStands = false ∧ ∀ r ∈ (tableOf n .raised none).ordinary, ¬ other r) ∧
      (∀ r ∈ (tableOf 60 .raised (some (newRecord 0#32 .overflow .device))).ordinary, ¬ other r) ∧
      (tableOf 60 .raised (some (newRecord 0#32 .overflow .device))).overflowStands = true ∧
      (∀ x ∈ [AlarmState.raised, .held, .ended], ∃ r behind, (tableOf 48 x none).ordinary = [] ++ r :: behind ∧ mine r ∧
        r.state = x ∧ ∀ y ∈ [] ++ behind, ¬ mine y) ∧
      (∀ x ∈ [AlarmState.raised, .held], ∀ n ∈ [(48, true), (47, false)],
        let a := tableOf (if x = .held then n.1 + 1 else n.1) x (some (newRecord 0#32 .overflow .device))
        decide (48 ≤ (a.finish 5#32 .dead (.feed 0 0)).ordinary.length) = n.2 ∧ a.overflowStands = true) := by
  refine ⟨by decide +kernel, by decide +kernel, by decide +kernel, ?_, by decide +kernel⟩
  intro x hx
  refine ⟨{ newRecord 0#32 .dead (.feed 0 0) with state := x }, (tableOf 48 x none).ordinary.tail, ?_⟩
  revert x
  decide +kernel

/-- R102, as the rule counts: a new record with 63 ordinary ones raises OVERFLOW and is not stored; the end that leaves 47 ends it. -/
theorem test_overflow_starts_and_ends :
    ((tableOf 63 .raised none).start 5#32 .lost (.screen 3)).overflowStands = true ∧
      ((tableOf 63 .raised none).start 5#32 .lost (.screen 3)).ordinary.length = 63 ∧
      (((tableOf 48 .held (some (newRecord 0#32 .overflow .device))).finish 5#32 .dead (.feed 0 0)).overflow.map
        AlarmRecord.state) = some .ended := by
  decide +kernel

/-- The loop has become FREE in this slot with a full queue of broadcasts and nothing else to send. -/
def freedFull : State := (queued 32 .reset).modLoop fun l => { l with freedAt := some 0 }
/-- LOOP_CONGESTED stands with `n` broadcasts queued. -/
def congestedWith (n : Nat) : State := (queued n .reset).modLoop fun l => { l with congested := true }

theorem witness_TransmitterArbitrates_full :
    (freedFull.loop.state = .free ∧ freedFull.loop.freedAt = some freedFull.scanner.slot ∧ LoopSound freedFull ∧
      freedFull.loop.congested = false ∧ freedFull.loop.source = none ∧ freedFull.loop.queue.length = 32 ∧
      (arbitrate freedFull).loop.queue.length = 31 ∧ queueHasRoom (arbitrate freedFull) = false) ∧
      (∀ n ∈ [24, 25], (congestedWith n).loop.state = .free ∧ (congestedWith n).loop.evacuationSlot = none ∧
        (∀ k, ((congestedWith n).station k).due = none ∧ ((congestedWith n).station k).resend = none) ∧
        (congestedWith n).loop.queue = [] ++ ⟨.broadcast 9, 1, 0, .port 1⟩ :: (congestedWith (n - 1)).loop.queue ∧
        (arbitrate (congestedWith n)).loop.congested = decide (n = 25)) := by
  unfold LoopSound QueueBounded
  decide +kernel

/-- R180: the result of an access table load gives each port's mask and house right, the ignored bits of a mask left out (R195). -/
theorem test_access_payload :
    (loadAccess .reset [0xF1#8, 1#8, 0#8, 0#8, 2#8, 9#8, 0#8, 0#8, 15#8, 0#8]).payload =
      [1#8, 1#8, 0#8, 0#8, 2#8, 1#8, 0#8, 0#8, 15#8, 0#8] := by
  decide +kernel

/-- An order of a full queue is being taken: until the slot is over a further order is refused, and an evacuation order due at
the same instant is sent first and leaves all 32 queued; a slot later there is room (R154, R156, R162). -/
theorem test_full_queue_as_the_loop_becomes_free :
    let ordering (s : State) : State := after (.sendOrder 0 [15#8, 0#8, 0#8, 1#8]) (issue s [0x1C#8, 15#8, 0#8, 0#8, 1#8])
    let s := ordering (arbitrate freedFull)
    let evacuated := arbitrate (s.modLoop fun l => { l with evacuationSlot := some ⟨15, 3, 0⟩ })
    reason s = some .busy ∧ s.loop.congested = true ∧ evacuated.loop.state = .sending (.broadcast 15 3 0 none) ∧
      evacuated.loop.queue = freedFull.loop.queue ∧
      reason (ordering (after (.senseConversionSlot 0) (arbitrate freedFull))) = some .ok := by
  decide +kernel

/-- The loop has become FREE in this slot with orders to the enabled station 3 and a broadcast queued. -/
def freedEnabled : State := enabledStation.modLoop fun l =>
  { l with freedAt := some 0, queue := [⟨.order 2, 1, 0, .port 0⟩, ⟨.broadcast 9, 1, 0, .port 1⟩, ⟨.order 2, 2, 0, .port 0⟩] }

theorem witness_TransmitterArbitrates_table :
    freedEnabled.loop.state = .free ∧ freedEnabled.loop.freedAt = some freedEnabled.scanner.slot ∧ LoopSound freedEnabled ∧
      freedEnabled.loop.congested = false ∧ freedEnabled.loop.source = none ∧ StationsInWindow freedEnabled := by
  have e : ∀ k, freedEnabled.station k = enabledStation.station k := by decide +kernel
  refine ⟨by decide +kernel, by decide +kernel, by unfold LoopSound QueueBounded; decide +kernel, by decide +kernel,
    by decide +kernel, fun k => ?_⟩
  rw [e k]
  exact witness_CommandsKeepTheStationsInWindow.2 k

/-- A table that enables no station, loaded in the slot of the taking: the frame to station 3 goes with its orders (R152). -/
theorem test_disabled_in_the_slot :
    let s := commitStationTable (arbitrate freedEnabled) { freedEnabled.loop.table with enabled := 0#8 }
    (arbitrate freedEnabled).loop.state = .sending (.order 2 0 false 1 0) ∧
      s.loop.state = .sending (.broadcast 9 1 0 (some (.port 1))) ∧ s.loop.queue = [] := by
  decide +kernel

/-- Screen 1's lane without a frame, in a stream state, with a candidate of an age, at an index with its misses. -/
def quiet (x : StreamState) (age index misses : Nat) : State :=
  (State.reset.modLane 0 fun l => { l with
    stream := x
    candidate := some ⟨3, 1, age⟩
    missCount := misses
    expected := some 255
    position := some (2 ^ 24 - 1) }).modPath 0 fun p => { p with index := index }

theorem witness_SamplePeriodAdvances_lanes :
    (∀ age ∈ [484, 485], let l := ((quiet .verify age 3 0).screen 0).lane
      l.arrived = none ∧ l.stream = .verify ∧ l.candidate = some ⟨3, 1, age⟩) ∧
      (∀ x ∈ [(4, 0), (5, 0), (5, 3)], let c := (quiet .locked 0 x.1 x.2).screen 0
        c.lane.arrived = none ∧ c.lane.stream = .locked ∧ c.lane.alignIn = none ∧ c.path.index = x.1 ∧
          c.lane.expected = some 255 ∧ c.lane.position = some (2 ^ 24 - 1) ∧ c.settings.nMiss = 4 ∧
          (∀ i, boundaryDue ((quiet .locked 0 x.1 x.2).screen i) = false) ∧
          (c.lane.missCount + 1 < c.settings.nMiss ↔ x.2 = 0)) ∧
      (let u := after (.wordFrameArrival 0 (List.replicate 16 0#24)) (quiet .search 0 3 0)
       (u.screen 0).lane.arrived ≠ none ∧ ∀ i, boundaryDue (u.screen i) = false) ∧
      (State.reset.screen 0).lane.stream = .absent := by
  decide +kernel

/-- R8, R9: the block whose word does not come is missed, and the misses lose the stream; sequence and position wrap. -/
theorem test_missed_blocks :
    let l (x : StreamState) (age index misses : Nat) := ((after .samplePeriod (quiet x age index misses)).screen 0).lane
    ((l .locked 0 5 0).stream = .holdover ∧ (l .locked 0 5 0).expected = some 0 ∧ (l .locked 0 5 0).position = some 0) ∧
      (l .locked 0 5 3).stream = .search ∧ (l .verify 485 3 0).stream = .search ∧ (l .verify 484 3 0).stream = .verify ∧
      (l .search 0 3 0).silence = 1 := by
  decide +kernel

theorem witness_FramesArriveAndCease_lengths :
    Running State.reset ∧ (List.replicate 15 (0#24 : Word)).length ≠ 16 ∧ (List.replicate 17 (0#24 : Word)).length ≠ 16 ∧
      lastWord.length = 16 ∧ (List.replicate 16 (0#24 : Word)).length = 16 := by
  decide +kernel

/-- Screen 1's boundary due after WAKE, its chains of one slot to be zeroed. -/
def waking : State := due (State.reset.modEqualiser 0 fun e =>
  { e with zeroDue := true, running := Tab.modify e.running 0 fun x => { x with chain := [383] } }) 0

theorem witness_GatesMoveAtABoundary_chains :
    Running waking ∧ boundaryDue (waking.screen 0) = true ∧ (waking.equaliser 0).zeroDue = true ∧
      383 ∈ recordSlots (waking.equaliser 0).running ∧ ((due .reset 0).equaliser 0).switch = .none ∧
      ((due .reset 0).equaliser 0).pending = none ∧ ((due .reset 0).equaliser 0).zeroDue = false := by
  decide +kernel

/-- R77: a section with state is silent after the first boundary that follows WAKE, and keeps its coefficients. -/
theorem test_wake_zeroes_the_chains :
    let dirty := waking.modPool fun p =>
      { p with slots := Tab.set p.slots 383 ⟨⟨1#24, 2#24, 3#24, 4#24, 5#24⟩, 6#24, 7#24, 8#24, 9#24⟩ }
    Tab.get (after (.blockBoundary 0) dirty).pool.slots 383 = ⟨⟨1#24, 2#24, 3#24, 4#24, 5#24⟩, 0#24, 0#24, 0#24, 0#24⟩ := by
  decide +kernel

theorem witness_SegmentMovesTheCeiling_block :
    (segmentEnding.control 0).sleepHeld = false ∧ (segmentEnding.control 0).clock = .waiting ∧
      boundaryDue (segmentEnding.screen 0) = true ∧ SubStep.segment ∉ (segmentEnding.screen 0).path.taken ∧
      SubStep.segment ∈ ((after (.segmentCompletion 0) segmentEnding).screen 0).path.taken ∧
      boundaryDue ((after (.segmentCompletion 0) segmentEnding).screen 0) = true ∧
      (let counting := segmentEnding.modGovernor 0 fun g => { g with blockCount := 98 }
       (counting.screen 0).governor.blockCount = 98 ∧ (counting.control 0).state = .inShow ∧
         ((after (.blockBoundary 0) counting).screen 0).governor.blockCount = 99) := by
  decide +kernel

theorem witness_SwitchesEnd_block :
    ∀ s ∈ [switching .crossfade, switching .cutIn, switching fun r => .cutOut r 0, deciding 1 [], deciding 0 []],
      (s.screen 0).renderer.ramp ≠ .rampOut ∧ s.calibration = [] ∧ s.pool.free.Nodup := by
  decide +kernel

/-- A request at the head that waits for a boundary of its screen. -/
def waitingHead (left : List FeedId) : State :=
  (due (due (withEntries .reset [runningEntry (.calibrate 0 3#16)]) 0) 1).withCalibration
    [⟨1, 0, 3#16, left, none, [], 0#16, 0#16, 0#16⟩]

theorem sweepsStay_of_nothing_handed {s : State} {i : ScreenId}
    (h : (s.control i).sleepHeld = false ∧ handedNext (s.screen i).lane = none) : SweepsStay s i :=
  ⟨h.1, .inr (.inr fun p e => by rw [h.2] at e; cases e)⟩

theorem witness_CalibrationStepsEnd_block :
    (∀ x ∈ [(63, 9), (64, 1), (3969, 1)], SweepsStay (followed x.1 x.2 [1] []) 0) ∧
      (let s := (due (sweeping 0 1 [1]) 0).withCalibration [⟨1, 0, 3#16, [1], some ⟨0, 1, 9, 70⟩, [], 0#16, 0#16, 0#16⟩]
       SweepsStay s 0 ∧ Running s ∧ BoundaryOpen s 0 .calibration) ∧
      (∀ left ∈ [[1], []], SweepsStay (waitingHead left) 0 ∧ SweepsStay (waitingHead left) 1) ∧
      (∀ left ∈ [[1], []], let s := waitingHead left
        Running s ∧ boundaryDue (s.screen 0) = true ∧ RunningEntry s 1 ∧ boundaryDue (s.screen 1) = true ∧
          (s.screen 0).settings.senseFitted.getLsbD 1 = true ∧ (s.equaliser 0).pending = none ∧
          (s.equaliser 0).switch = .none) := by
  refine ⟨fun x hx => sweepsStay_of_nothing_handed ?_, ⟨sweepsStay_of_nothing_handed ?_, ?_⟩,
    fun left hl => ⟨sweepsStay_of_nothing_handed ?_, sweepsStay_of_nothing_handed ?_⟩, ?_⟩
  · revert x; decide +kernel
  · decide +kernel
  · decide +kernel
  · revert left; decide +kernel
  · revert left; decide +kernel
  · unfold RunningEntry
    decide +kernel

/-- The queues of calibration at a boundary: the head starts, the ninth block leads to the tenth, and the end of a step that no
step of its own made is made (R109, R111). -/
theorem test_boundaries_move_the_sweep :
    let tone (s : State) : Option Tone := (after (.blockBoundary 0) s).calibration.head?.bind CalRequest.tone
    tone (waitingHead [1]) = some ⟨1, 1, 1, 0⟩ ∧
      tone ((due .reset 0).withCalibration [⟨1, 0, 3#16, [1], some ⟨0, 1, 9, 70⟩, [], 0#16, 0#16, 0#16⟩]) =
        some ⟨0, 1, 10, 70⟩ ∧
      tone (followed 63 9 [1] []) = some ⟨0, 10, 1, 0⟩ := by
  decide +kernel

/-- A feed that has just become DEAD is told to the alarm table, and one that stays as it was is not (R98, R163). -/
theorem test_reports_of_a_feed :
    feedReports 0 3 Feed.reset { Feed.reset with dead := true, clip := true } =
        [(.dead, .feed 0 3, true), (.clip, .feed 0 3, true)] ∧
      reportsTaken 5#32 (feedReports 0 3 { Feed.reset with hot := true } Feed.reset)
        ⟨[newRecord 0#32 .hot (.feed 0 3)], none, false⟩ = ⟨[⟨.hot, .feed 0 3, .ended, 0#32, 5#32, 1⟩], none, false⟩ := by
  decide +kernel

end Sys2Proof.Tests
end

section
/-! PROOFS. Cue lines: the lamp demand (R103), the active lines and the relay drives (R146). -/

namespace Sys2Proof.Proofs.Relay

open Sys2Proof Sys2Proof.Machine

theorem lampDemand_iff (s : State) (i : ScreenId) :
    lampDemand s i = true ↔
      ∃ a ∈ s.alarms.ordinary ++ s.alarms.overflow.toList, a.scope.screen? = some i ∧ a.state = .raised := by
  simp only [lampDemand, AlarmTable.records, List.any_eq_true, Bool.and_eq_true, beq_iff_eq]

/-- The four causes of R146, two of them by the line's role. -/
theorem lineActive_iff (s : State) (l : LineId) :
    lineActive s l = true ↔ (s.line l).flag = true ∨ 0 < (s.line l).pulse ∨
      (∃ i, (s.line l).role = .alarmLamp i ∧ lampDemand s i = true) ∨
      ((s.line l).role = .evac ∧ s.safety.asserted = true) := by
  simp only [lineActive, Bool.or_eq_true, decide_eq_true_eq, or_assoc]
  cases (s.line l).role with
  | plain => simp
  | alarmLamp i => simp
  | evac => simp

/-- The polarity turns the drive around (R146). -/
theorem relayEnergised_iff (s : State) (l : LineId) :
    relayEnergised s l = true ↔ (lineActive s l = true ∧ (s.line l).inverted = false) ∨
      (¬ lineActive s l = true ∧ (s.line l).inverted = true) := by
  unfold relayEnergised
  cases (s.line l).inverted with
  | false => simp
  | true => simp

/-- Settles O24: the drive is the polarity of `lineActive`, whose causes are those of R146. -/
theorem relayFollowsTheLine : Obligations.RelayFollowsTheLine := by
  intro s l
  simp only [relayEnergised_iff, lineActive_iff, lampDemand_iff]

end Sys2Proof.Proofs.Relay
end

section
/-! PROOFS. Control ports: the causes of ATN (R103, R184) and the fields of the status byte (12.2). -/

namespace Sys2Proof.Proofs.Attention

open Sys2Proof Sys2Proof.Machine

/-! ### The causes (R103, R184) -/

theorem completionAttention_iff (s : State) (p : PortId) :
    completionAttention s p = true ↔ ∃ e ∈ s.completions.entries, e.owner = p ∧ e.done.isSome = true := by
  simp only [completionAttention, List.any_eq_true, Bool.and_eq_true, beq_iff_eq]

/-- Device and station scope are covered by every port (R103). -/
theorem coversScope_iff (s : State) (p : PortId) (scope : Scope) :
    coversScope s p scope = true ↔ ∀ i, scope.screen? = some i → Covers s p i := by
  cases h : scope.screen? with
  | none => simp [coversScope, h]
  | some i => simp [coversScope, h, covers]

theorem ne_held_iff (a : AlarmState) : a ≠ .held ↔ a = .raised ∨ a = .ended := by
  cases a <;> decide

theorem alarmAttention_iff (s : State) (p : PortId) :
    alarmAttention s p = true ↔ ∃ r ∈ s.alarms.ordinary ++ s.alarms.overflow.toList,
      (r.state = .raised ∨ r.state = .ended) ∧ ∀ i, r.scope.screen? = some i → Covers s p i := by
  simp only [alarmAttention, AlarmTable.records, List.any_eq_true, Bool.and_eq_true, bne_iff_ne, coversScope_iff,
    ne_held_iff, and_comm]

theorem noticeAttention_iff (s : State) (p : PortId) :
    noticeAttention s p = true ↔ ∃ i, Covers s p i ∧ (s.screen i).lane.notice.count ≠ .zero := by
  simp only [noticeAttention, screenIds, List.any_eq_true, List.mem_finRange, true_and, Bool.and_eq_true, bne_iff_ne,
    covers]

theorem attention_iff (s : State) (p : PortId) :
    attention s p = true ↔
      completionAttention s p = true ∨ alarmAttention s p = true ∨ noticeAttention s p = true := by
  simp only [attention, Bool.or_eq_true, or_assoc]

/-! ### The status byte (12.2) -/

/-- Phase, ready flag, direction and ATN lie in bits of their own, so each is read back from the sum; the last three bits
are 0. -/
theorem statusByte_fields (s : State) (p : PortId) (phase : Phase) :
    (statusByte s p phase).extractLsb' 6 2 = BitVec.ofNat 2 (phaseCode phase) ∧
    (statusByte s p phase).getLsbD 5 = (phase != .execute) ∧ (statusByte s p phase).getLsbD 4 = (phase == .result) ∧
    (statusByte s p phase).getLsbD 3 = attention s p ∧ (statusByte s p phase).extractLsb' 0 3 = 0#3 := by
  unfold statusByte
  generalize attention s p = atn
  cases phase with
  | ready | command | execute | result => cases atn <;> decide

/-- Settles O9: ATN is the disjunction of the three causes, and the fields of the status byte are those of 12.2. -/
theorem attentionAndStatusByte : Obligations.AttentionAndStatusByte := by
  intro s p
  constructor
  · rw [attention_iff, completionAttention_iff, alarmAttention_iff, noticeAttention_iff]
  · intro phase
    obtain ⟨hphase, hfields⟩ := statusByte_fields s p phase
    refine ⟨?_, hfields⟩
    cases phase with
    | ready | command | execute | result => exact hphase

end Sys2Proof.Proofs.Attention
end
